-- ==== Sys2Proof/Word.lean ====
section
/-! DEFINITION. The word types: a command or response word has 32 bits, a bus byte 8 (spec/30_encoding.md R80, spec/20_memory.md R53). -/

namespace Sys2Proof

/-- A command word or a response word: 32 bits, presented whole on its port (R80). -/
abbrev Word := BitVec 32

/-- What one bus transaction carries: 8 bits (R53, R65). -/
abbrev Byte := BitVec 8

end Sys2Proof
end

