-- ==== Sys2Proof/Syntax.lean ====
section
/-! DEFINITION. The commands: one constructor per row of spec/opcode_table.json (spec/30_encoding.md R89),
and the cause codes of an illegal word (spec/60_exceptions.md R201). -/

namespace Sys2Proof

/-- A command, with the operands of its format as the word holds them (R82-R88). `ch` is the raw chip
selector: 0 and 3 are two different words that both decode to `NONE` (R90). -/
inductive Instr where
  /-- R180. -/
  | nop
  /-- R101: `CH`, `DATA`. -/
  | sendCmd (ch : BitVec 2) (data : Byte)
  /-- R102: `CH`, `DATA`. -/
  | writeByte (ch : BitVec 2) (data : Byte)
  /-- R103: `CH`. -/
  | readByte (ch : BitVec 2)
  /-- R104: `PG`, `COL`. -/
  | setAddress (pg : BitVec 3) (col : BitVec 7)
  /-- R120: `PG`, `COL`. -/
  | gotoxy (pg : BitVec 3) (col : BitVec 7)
  /-- R122: `CODE`. -/
  | displayChar (code : Byte)
  /-- R141: `PER`. -/
  | waveConfig (per : BitVec 7)
  /-- R148: `DUTY`. -/
  | waveStep (duty : BitVec 7)
  /-- R149. -/
  | waveStepM
  /-- R166. -/
  | consume
  /-- R170. -/
  | derive
  /-- R181: `IDX`. -/
  | readReg (idx : BitVec 8)
  deriving DecidableEq, Repr

/-- Why a word is illegal (R91, R201). -/
inductive Cause where
  /-- Cause 1: OP in 0xC..0xF. -/
  | reservedOpcode
  /-- Cause 2: a bit outside the format's fields is set. -/
  | reservedBit
  /-- Cause 3: operand out of domain. -/
  | operandDomain
  /-- Cause 4: unassigned register index. -/
  | registerIndex
  deriving DecidableEq, Repr

/-- The cause code of R201, as `ILL_CAUSE` records it. -/
def Cause.code : Cause → BitVec 4
  | .reservedOpcode => 1
  | .reservedBit => 2
  | .operandDomain => 3
  | .registerIndex => 4

end Sys2Proof
end

