-- ==== Sys2Proof/WellFormed.lean ====
section
/-! DEFINITION. The value constraints of the opcode map (spec/30_encoding.md R89): what a command's operands
must meet beside the width of their fields. -/

namespace Sys2Proof

/-- The operands are in the domain the opcode map gives them (R86 `PER` != 0, R87 `DUTY` <= 100, R88
`IDX` <= 0x0C). Every other operand may have any value its field can hold. -/
def Instr.wf : Instr → Bool
  | .nop => true
  | .sendCmd _ _ => true
  | .writeByte _ _ => true
  | .readByte _ => true
  | .setAddress _ _ => true
  | .gotoxy _ _ => true
  | .displayChar _ => true
  | .waveConfig per => decide (per ≠ 0)
  | .waveStep duty => decide (duty ≤ 100)
  | .waveStepM => true
  | .consume => true
  | .derive => true
  | .readReg idx => decide (idx ≤ 0x0C)

end Sys2Proof
end

