-- ==== Sys2Proof/Decode.lean ====
section
/-! DEFINITION. The decoder, total on all 2^32 words (spec/30_encoding.md R91), and after it the encoder,
written from the formats (R82-R88), and the table rows' match and mask (R89). -/

namespace Sys2Proof

/-- `OP = W[31:28]` (R81). -/
def opcode (w : Word) : BitVec 4 := w.extractLsb' 28 4

/-- `CH = W[25:24]` (R83). -/
def fieldCH (w : Word) : BitVec 2 := w.extractLsb' 24 2

/-- `DATA = W[7:0]` (R83), `CODE` (R85) and `IDX` (R88). -/
def fieldByte (w : Word) : Byte := w.extractLsb' 0 8

/-- `PG = W[10:8]` (R84). -/
def fieldPG (w : Word) : BitVec 3 := w.extractLsb' 8 3

/-- `COL = W[6:0]` (R84), `PER` (R86) and `DUTY` (R87). -/
def field7 (w : Word) : BitVec 7 := w.extractLsb' 0 7

/-- `M = W[8]` (R87). -/
def fieldM (w : Word) : Bool := w.getLsbD 8

/-- `FieldMask(op)` of R91: the bits of `W[27:0]` the format's fields use. -/
def fieldMask (op : BitVec 4) : BitVec 28 :=
  match op.toNat with
  | 0x1 | 0x2 => 0x30000FF
  | 0x3 => 0x3000000
  | 0x4 | 0x5 => 0x000077F
  | 0x6 | 0xB => 0x00000FF
  | 0x7 => 0x000007F
  | 0x8 => 0x000017F
  | _ => 0x0000000

/-- The row of R89 that the opcode selects, and `W[8]` for opcode 8. The decoder asks it only for opcodes
0x0..0xB. -/
def selectRow (w : Word) : Instr :=
  match (opcode w).toNat with
  | 0x0 => .nop
  | 0x1 => .sendCmd (fieldCH w) (fieldByte w)
  | 0x2 => .writeByte (fieldCH w) (fieldByte w)
  | 0x3 => .readByte (fieldCH w)
  | 0x4 => .setAddress (fieldPG w) (field7 w)
  | 0x5 => .gotoxy (fieldPG w) (field7 w)
  | 0x6 => .displayChar (fieldByte w)
  | 0x7 => .waveConfig (field7 w)
  | 0x8 => if fieldM w then .waveStepM else .waveStep (field7 w)
  | 0x9 => .consume
  | 0xA => .derive
  | _ => .readReg (fieldByte w)

/-- `Decode(W)` of R91, with its checks in its order: one row of R89, or an illegal verdict by its cause. -/
def decode (w : Word) : Except Cause Instr :=
  if 0xC ≤ opcode w then .error .reservedOpcode
  else if w.extractLsb' 0 28 &&& ~~~(fieldMask (opcode w)) ≠ 0 then .error .reservedBit
  else if opcode w = 0x8 ∧ fieldM w = true ∧ field7 w ≠ 0 then .error .reservedBit
  else if opcode w = 0x7 ∧ field7 w = 0 then .error .operandDomain
  else if opcode w = 0x8 ∧ fieldM w = false ∧ 100 < field7 w then .error .operandDomain
  else if opcode w = 0xB ∧ 0x0C < fieldByte w then .error .registerIndex
  else .ok (selectRow w)

/-- The word of a command, from the formats of R82-R88: the opcode, then the fields and the reserved-zero
bits in the order of the format's table. -/
def encode : Instr → Word
  | .nop => 0x0#4 ++ 0#28
  | .sendCmd ch data => 0x1#4 ++ 0#2 ++ ch ++ 0#16 ++ data
  | .writeByte ch data => 0x2#4 ++ 0#2 ++ ch ++ 0#16 ++ data
  | .readByte ch => 0x3#4 ++ 0#2 ++ ch ++ 0#24
  | .setAddress pg col => 0x4#4 ++ 0#17 ++ pg ++ 0#1 ++ col
  | .gotoxy pg col => 0x5#4 ++ 0#17 ++ pg ++ 0#1 ++ col
  | .displayChar code => 0x6#4 ++ 0#20 ++ code
  | .waveConfig per => 0x7#4 ++ 0#21 ++ per
  | .waveStep duty => 0x8#4 ++ 0#19 ++ 0#1 ++ 0#1 ++ duty
  | .waveStepM => 0x8#4 ++ 0#19 ++ 1#1 ++ 0#1 ++ 0#7
  | .consume => 0x9#4 ++ 0#28
  | .derive => 0xA#4 ++ 0#28
  | .readReg idx => 0xB#4 ++ 0#20 ++ idx

/-- The `match` and `mask` columns of the opcode map (R89), as (match, mask). -/
def Instr.tableRow : Instr → Word × Word
  | .nop => (0x00000000, 0xFFFFFFFF)
  | .sendCmd _ _ => (0x10000000, 0xFCFFFF00)
  | .writeByte _ _ => (0x20000000, 0xFCFFFF00)
  | .readByte _ => (0x30000000, 0xFCFFFFFF)
  | .setAddress _ _ => (0x40000000, 0xFFFFF880)
  | .gotoxy _ _ => (0x50000000, 0xFFFFF880)
  | .displayChar _ => (0x60000000, 0xFFFFFF00)
  | .waveConfig _ => (0x70000000, 0xFFFFFF80)
  | .waveStep _ => (0x80000000, 0xFFFFFF80)
  | .waveStepM => (0x80000100, 0xFFFFFFFF)
  | .consume => (0x90000000, 0xFFFFFFFF)
  | .derive => (0xA0000000, 0xFFFFFFFF)
  | .readReg _ => (0xB0000000, 0xFFFFFF00)

/-- The value constraint column of the opcode map (R89), on the word. -/
def Instr.rowConstraint (i : Instr) (w : Word) : Bool :=
  match i with
  | .waveConfig _ => decide (field7 w ≠ 0)
  | .waveStep _ => decide (field7 w ≤ 100)
  | .readReg _ => decide (fieldByte w ≤ 0x0C)
  | .nop | .sendCmd _ _ | .writeByte _ _ | .readByte _ | .setAddress _ _ | .gotoxy _ _ | .displayChar _
  | .waveStepM | .consume | .derive => true

/-- The number of response words a command produces (R93). -/
def Instr.responseCount : Instr → Nat
  | .readByte _ => 1
  | .consume => 3
  | .derive => 4
  | .readReg _ => 1
  | .nop | .sendCmd _ _ | .writeByte _ _ | .setAddress _ _ | .gotoxy _ _ | .displayChar _ | .waveConfig _
  | .waveStep _ | .waveStepM => 0

/-- The word of which the opcode table numbers the bits: the low `nbits` bits of `w`, every bit above them
0. Every command is one 32-bit word, presented whole (R80), so there is no byte order to choose. -/
def tableWord (nbits w : Nat) : Word := BitVec.ofNat 32 (w % 2 ^ nbits)

/-- What the decoder reads from the opcode table's word (`none` where it refuses it as illegal). -/
def decodeTableWord (nbits w : Nat) : Option Instr :=
  match decode (tableWord nbits w) with
  | .ok i => some i
  | .error _ => none

end Sys2Proof
end

