-- ==== Sys2Proof/Config.lean ====
section
/-! DEFINITION. What is fixed for the machine: the parameters of spec/00_scope.md R5 with their legal
ranges (R5, R8), and the free values (constants with no body) that stand for what the spec leaves open. -/

namespace Sys2Proof

/-- What stands at the other end of the display bus. `conforming`: two controllers that follow
20_memory.md R61. `oracle`: an absent or non-conforming display, which answers a read with any byte and
ignores writes (60_exceptions.md R211, 93_implementation_defined.md U5). -/
inductive DisplayKind where
  | conforming
  | oracle
  deriving DecidableEq, Repr

/-- The parameters of 00_scope.md R5. They are fixed for a machine and no step changes them. A statement
about every state is a statement about every value of them. -/
structure Config where
  /-- `TS_W`: width of the timestamp counter and of every tick register, in bits. -/
  tsW : Nat
  /-- `TICK_RATE_HZ`: ticks per second of the timestamp counter. -/
  tickRateHz : Nat
  /-- `TICK_US_NUM`: numerator of the tick duration in microseconds. -/
  tickUsNum : Nat
  /-- `TICK_US_DEN`: denominator of the tick duration in microseconds. -/
  tickUsDen : Nat
  /-- `GLYPH`: the five column bytes of each character code 32..90, code 32 first. -/
  glyph : Vector (Vector Byte 5) 59
  /-- `Y_HIGH`: display row of the trace's high level. -/
  yHigh : Nat
  /-- `Y_LOW`: display row of the trace's low level. -/
  yLow : Nat
  /-- `TRACE_PAGE_LO`: first page of the waveform region. -/
  tracePageLo : Nat
  /-- `TRACE_PAGE_HI`: last page of the waveform region. -/
  tracePageHi : Nat
  /-- `PIXEL_PERIOD_RESET`: reset value of the pixel-period register. -/
  pixelPeriodReset : BitVec 7
  /-- `CMD_PAGE_BASE`: the page-select command opcode. -/
  cmdPageBase : Byte
  /-- `CMD_COL_BASE`: the column-select command opcode. -/
  cmdColBase : Byte
  /-- `DUMMY_READ`: true if every data read of the renderers is preceded by one discarded read. -/
  dummyRead : Bool
  /-- `T_SETUP`: least number of cycles from select to the rise of `lcd_e`. -/
  tSetup : Nat
  /-- `T_PW`: least number of cycles `lcd_e` is held high. -/
  tPw : Nat
  /-- `T_HOLD`: least number of cycles from the fall of `lcd_e` to the release of the selects. -/
  tHold : Nat
  /-- `CS_ACTIVE_HIGH`: true if a chip-select is asserted by driving it 1. -/
  csActiveHigh : Bool
  /-- `DISP_AUTOINC`: true if a controller advances its column pointer after each data access. -/
  dispAutoinc : Bool
  /-- What answers on the display bus (R211, U5). -/
  display : DisplayKind
  deriving DecidableEq, Repr

namespace Config

/-- `TOP` of 42_waveform.md: the upper of the two trace levels. -/
def top (c : Config) : Nat := min c.yHigh c.yLow

/-- `BOT` of 42_waveform.md: the lower of the two trace levels. -/
def bot (c : Config) : Nat := max c.yHigh c.yLow

/-- The legal ranges of R5. -/
def rangesOk (c : Config) : Bool :=
  decide (22 ≤ c.tsW ∧ c.tsW ≤ 32) &&
  decide (1 ≤ c.tickRateHz ∧ c.tickRateHz < 2 ^ 32) &&
  decide (c.tickUsNum < 2 ^ 32) &&
  decide (1 ≤ c.tickUsDen ∧ c.tickUsDen < 2 ^ 32) &&
  decide (c.pixelPeriodReset ≠ 0) &&
  decide (c.cmdPageBase &&& 0x07 = 0) &&
  decide (c.cmdColBase &&& 0x3F = 0) &&
  decide (1 ≤ c.tSetup ∧ 1 ≤ c.tPw ∧ 1 ≤ c.tHold)

/-- The geometry constraints of R8. -/
def geometryOk (c : Config) : Bool :=
  decide (c.tracePageLo ≤ c.tracePageHi ∧ c.tracePageHi ≤ 7) &&
  decide (8 * c.tracePageLo ≤ c.top) &&
  decide (c.bot + 1 ≤ 8 * c.tracePageHi + 7)

/-- A configuration of this hardware (R5, R8): "A configuration that breaks a constraint is not a
configuration of this hardware, and a model refuses it." -/
def ok (c : Config) : Bool := c.rangesOk && c.geometryOk

/-- The page-select and the column-select opcode can be told apart by a controller of R61, which tests
for a page-select first. DEDUCED: R5 does not force it, R62 needs it (notes/assumptions/15.md). Safe: it
is only ever a hypothesis. -/
def basesDistinct (c : Config) : Bool := decide (c.cmdPageBase &&& 0xC0 ≠ c.cmdColBase)

/-- The glyph table of the default configuration: the two glyphs of 95_test_vectors.md `GLYPH_T`, every
other glyph blank. DESIGN CHOICE, unsafe for a claim about one run from reset (notes/assumptions/4.md):
R5 leaves `GLYPH` OPEN. -/
def testGlyphs : Vector (Vector Byte 5) 59 :=
  ((Vector.replicate 59 (Vector.replicate 5 0x00)).set 33 #v[0x7E, 0x11, 0x11, 0x11, 0x7E]).set 58
    #v[0x61, 0x51, 0x49, 0x45, 0x43]

/-- The configuration State.reset has: the decided values of R5, and for its OPEN parameters the values
95_test_vectors.md uses. `T_SETUP`, `T_PW`, `T_HOLD` and `CS_ACTIVE_HIGH` have no value anywhere in the
spec: DESIGN CHOICE 1, 1, 1 and true (notes/assumptions/4.md). -/
def default : Config where
  tsW := 32
  tickRateHz := 2000000
  tickUsNum := 1
  tickUsDen := 2
  glyph := testGlyphs
  yHigh := 40
  yLow := 60
  tracePageLo := 5
  tracePageHi := 7
  pixelPeriodReset := 32
  cmdPageBase := 0xB8
  cmdColBase := 0x40
  dummyRead := false
  tSetup := 1
  tPw := 1
  tHold := 1
  csActiveHigh := true
  dispAutoinc := true
  display := .conforming

/-- The byte of a display address nothing has written since the display's `epoch`-th power-up: any value
(20_memory.md R61, U2). Free value. -/
opaque powerUpByte (epoch addr : Nat) : Byte

/-- A controller's page pointer after a display reset: any value (U2, U3). Free value, a fresh one for
each `draw`; `chip` is 1 or 2. -/
opaque powerUpPage (draw chip : Nat) : BitVec 3

/-- A controller's column pointer after a display reset: any value (U2, U3). Free value. -/
opaque powerUpCol (draw chip : Nat) : BitVec 6

/-- The byte sampled from a bus nobody drives: any value (20_memory.md R54, U1; R211, U5). Free value, a
fresh one for each `draw`. -/
opaque undrivenByte (draw : Nat) : Byte

/-- `lcd_db_out` between transactions: any value (10_state.md R35, U4). Free value. -/
opaque idleDbOut (draw : Nat) : Byte

/-- `lcd_db_out` during a data read, when `lcd_db_oe` is 0: no rule gives it a value (notes/assumptions/10.md). Free
value, one for each `draw`. -/
opaque readDbOut (draw : Nat) : Byte

end Config

end Sys2Proof
end

