-- ==== Sys2Proof/Machine/State.lean ====
section
/-! DEFINITION. The state of the machine as plain data (spec/10_state.md), the state of its environment a
model must hold (R37), and the state right after reset (spec/70_reset_and_hazards.md R220). -/

namespace Sys2Proof.Machine

/-! ### Why a step can stop -/

/-- The block never stops: "No command and no event ever stops the sequencer or the capture FSM"
(60_exceptions.md R200). No step of this machine faults, so there is no reason to name. -/
inductive Fault where
  deriving DecidableEq, Repr

/-- Why a step has no meaning. -/
inductive Refusal where
  /-- An instruction that has no meaning yet: raised by no arm of `exec`. Safe. -/
  | notModelled (mnemonic : String)
  /-- Raised by `step` when the configuration breaks R5 or R8: "not a configuration of this hardware, and a
  model refuses it" (00_scope.md R8). Safe. -/
  | illegalConfiguration
  deriving DecidableEq, Repr

/-! ### Display memory and controllers (environment, R37) -/

/-- One of the two display controllers. A chip selector is an `Option Chip`; `none` is `NONE` (R53). -/
inductive Chip where
  /-- Chip 1, logical columns 0..63. -/
  | one
  /-- Chip 2, logical columns 64..127. -/
  | two
  deriving DecidableEq, Repr

/-- The display memory: the bytes written since the display's last power-up, by display address. Canonical:
addresses strictly rising, each below 1024 (`Mem.wf`). An unlisted address holds no written byte; what it
reads as is the free value `Config.powerUpByte` (20_memory.md R61; notes/assumptions/7.md). -/
abbrev Mem := List Host.Cell

/-- The pointers of one controller (R61): `PG_k` and `CL_k`. -/
structure Controller where
  page : BitVec 3
  col : BitVec 6
  deriving DecidableEq, Repr

/-- The two display controllers: pointers and RAM (R61), and which power-up the RAM's unwritten contents
date from. `epoch` is the model's own (notes/assumptions/7.md). -/
structure Display where
  c1 : Controller
  c2 : Controller
  ram : Mem
  epoch : Nat
  deriving DecidableEq, Repr

/-! ### Bus transactions and the steps of the sequencer -/

/-- What becomes of the byte a data read samples: thrown away (the dummy read of R57), kept for the write
half of `RmwOr` (R60), or answered to the host (R103). -/
inductive ReadUse where
  | discard
  | latch
  | respond
  deriving DecidableEq, Repr

/-- A bus transaction still to be issued (R53). `writeOr` is the write half of `RmwOr`: its byte is the
byte read before, with `mask` ORed in (R60). -/
inductive Txn where
  | cmd (chip : Option Chip) (b : Byte)
  | write (chip : Option Chip) (b : Byte)
  | writeOr (chip : Option Chip) (mask : Byte)
  | read (chip : Option Chip) (use : ReadUse)
  deriving DecidableEq, Repr

/-- A transaction as the bus trace records it (R53): `C(chip, b)`, `D(chip, b)` or `R(chip) = b`. -/
inductive BusRecord where
  | C (chip : Option Chip) (b : Byte)
  | D (chip : Option Chip) (b : Byte)
  | R (chip : Option Chip) (b : Byte)
  deriving DecidableEq, Repr

/-- The registers READ_REG can name (44_register_access.md R182). -/
inductive Reg where
  | status
  | cursor
  | periodCfg
  | waveT
  | waveBuf0
  | waveBuf1
  | waveBuf2
  | waveBuf3
  | prevRise
  | periodTicks
  | highTicks
  | snapPeriod
  | snapHigh
  deriving DecidableEq, Repr

/-- One indivisible step of the sequencer (R11): a bus transaction, or an update of the block's registers
that a command's pseudocode makes between its transactions. -/
inductive MicroOp where
  /-- Issue one transaction. -/
  | bus (t : Txn)
  /-- `CUR_PAGE <- page`, `CUR_COL <- col` (R120, R121). -/
  | setCursor (page : BitVec 3) (col : BitVec 7)
  /-- `PIXEL_PERIOD <- per`, `WAVE_T <- 0` (R141). -/
  | setPeriod (per : BitVec 7)
  /-- `SampleGen(duty)` and the shift (R142, R143). -/
  | sample (duty : Nat)
  /-- The atomic step of CONSUME and its responses (R166, R70). -/
  | consume
  /-- The responses of DERIVE (R170). -/
  | derive
  /-- `Respond(RegWord(r))` (R181). -/
  | readReg (r : Reg)
  /-- `IllegalCommand(cause)` (R201). -/
  | illegal (cause : Cause)
  deriving DecidableEq, Repr

/-- How far the transaction in progress has come: the step of R53 it has last made. -/
inductive Stage where
  /-- Step 1 made: mode lines and data bus driven. -/
  | mode
  /-- Step 2 made: chip-select asserted, waiting `T_SETUP`. -/
  | select
  /-- Step 3 begun: `lcd_e` high, waiting `T_PW`. -/
  | enable
  /-- Step 3 ended: `lcd_e` low again, waiting `T_HOLD`. -/
  | hold
  deriving DecidableEq, Repr

/-- A transaction in progress; `left` is how many more cycles its step lasts at least (R53, R234). -/
structure Flight where
  txn : Txn
  stage : Stage
  left : Nat
  deriving DecidableEq, Repr

/-- The bus pin registers (10_state.md R35; ports of 00_scope.md R6), as levels. `rstN` is the level of
`lcd_rst_n` in the slot last played (R224). -/
structure Pins where
  rs : Bool
  rw : Bool
  e : Bool
  cs1 : Bool
  cs2 : Bool
  dbOe : Bool
  dbOut : Byte
  rstN : Bool
  deriving DecidableEq, Repr

/-- The idle levels of R35, with `dbOut` whatever it is (U4). -/
def Pins.idle (c : Config) (dbOut : Byte) : Pins where
  rs := false
  rw := false
  e := false
  cs1 := !c.csActiveHigh
  cs2 := !c.csActiveHigh
  dbOe := true
  dbOut := dbOut
  rstN := true

/-! ### Edge capture -/

/-- `PHASE` (R27): 0 AwaitingRisingEdge, 1 AwaitingFallingEdge. -/
inductive CapPhase where
  | awaitingRising
  | awaitingFalling
  deriving DecidableEq, Repr

/-! ### What the outside does -/

/-- How far the sequencer gets within one slot. The spec bounds no duration from above (R238), so the
schedule says it (notes/assumptions/2.md). -/
inductive Pace where
  /-- Nothing: a cycle the block adds between its phases (R234). -/
  | wait
  /-- One `clk` cycle of the transaction in progress. -/
  | cycle
  /-- One indivisible step (R11): the transaction in progress, or the next step, to its end. -/
  | transaction
  /-- Everything the command still has to do, up to its responses. -/
  | command
  deriving DecidableEq, Repr

/-- The input ports of R6 over one slot of time, and how far the sequencer gets in it. A slot is one `clk`
cycle at pace `wait` or `cycle`, and the cycles it takes at the other paces; its inputs are those of its
first cycle, and the host accepts at most one response word in it. -/
structure Slot where
  /-- `rst`. -/
  rst : Bool
  /-- `cmd_valid` with `cmd_word`. -/
  cmd : Option Word
  /-- `rsp_ready`. -/
  rspReady : Bool
  /-- `cap_evt` with `cap_rising`: an edge event, true if rising. Its `cap_ts` is the timestamp counter's
  value at the event (R160). -/
  edge : Option Bool
  /-- Ticks the timestamp counter makes before the slot's event. -/
  ticks : Nat
  /-- How far the sequencer gets. -/
  pace : Pace
  deriving DecidableEq, Repr

/-- A slot in which nothing arrives, the host would accept a response, and the sequencer runs on. -/
def Slot.quiet : Slot where
  rst := false
  cmd := none
  rspReady := true
  edge := none
  ticks := 0
  pace := .command

/-! ### The state -/

/-- The whole machine: configuration, block registers (10_state.md), sequencer, pins, environment (R37) and
the record of what passed at the ports. -/
structure State where
  /-- The configuration (R5), which no step changes. -/
  cfg : Config
  /-- `CUR_PAGE` (R21). -/
  curPage : BitVec 3
  /-- `CUR_COL` (R22). -/
  curCol : BitVec 7
  /-- `WAVE_BUF` (R23): bit i is entry i, the oldest at 0. -/
  waveBuf : BitVec 128
  /-- `WAVE_T` (R24). -/
  waveT : BitVec 7
  /-- `PIXEL_PERIOD` (R25). -/
  pixelPeriod : BitVec 7
  /-- `PREV_RISE` (R26), zero-extended from TS_W bits. -/
  prevRise : Word
  /-- `PHASE` (R27). -/
  phase : CapPhase
  /-- `PERIOD_TICKS` (R28), zero-extended from TS_W bits. -/
  periodTicks : Word
  /-- `HIGH_TICKS` (R29), zero-extended from TS_W bits. -/
  highTicks : Word
  /-- `MEAS_READY` (R30). -/
  measReady : Bool
  /-- `SNAP_PERIOD` (R31), zero-extended from TS_W bits. -/
  snapPeriod : Word
  /-- `SNAP_HIGH` (R31), zero-extended from TS_W bits. -/
  snapHigh : Word
  /-- `ILL` (R32). -/
  ill : Bool
  /-- `ILL_CAUSE` (R32). -/
  illCause : BitVec 4
  /-- Sequencer (R34): the steps the current command has still to make, first one first. -/
  remaining : List MicroOp
  /-- Sequencer: the transaction in progress (R53). -/
  flight : Option Flight
  /-- Sequencer: the byte `RmwOr` has read and not yet written back (R60). -/
  rdLatch : Byte
  /-- Sequencer (R34): the response words still to deliver, first one first. -/
  rsp : List Word
  /-- The bus pin registers (R35). -/
  pins : Pins
  /-- The display controllers (R61). -/
  disp : Display
  /-- The free-running timestamp counter (R37, R160), zero-extended from TS_W bits. -/
  tsCounter : Word
  /-- How many free values have been drawn: the model's own (notes/assumptions/9.md). -/
  draws : Nat
  /-- The slots still to come. When none is left, nothing arrives: `Slot.quiet`. -/
  inputs : List Slot
  /-- The bus trace (R53), newest record first. -/
  trace : List BusRecord
  /-- The response words the host has accepted, newest first. -/
  rspLog : List Word
  deriving DecidableEq, Repr

/-- The display of `State.reset`: nothing written, and both pointer pairs 0. DESIGN CHOICE, unsafe
(notes/assumptions/6.md): the spec leaves them unspecified (R61, R223). -/
def Display.reset : Display where
  c1 := ⟨0, 0⟩
  c2 := ⟨0, 0⟩
  ram := []
  epoch := 0

/-- The state right after reset under configuration `c`: every register of 10_state.md at the value R220
gives it. -/
def State.resetWith (c : Config) : State where
  cfg := c
  curPage := 0
  curCol := 0
  waveBuf := 0
  waveT := 0
  pixelPeriod := c.pixelPeriodReset
  prevRise := 0
  phase := .awaitingRising
  periodTicks := 0
  highTicks := 0
  measReady := false
  snapPeriod := 0
  snapHigh := 0
  ill := false
  illCause := 0
  remaining := []
  flight := none
  rdLatch := 0
  rsp := []
  pins := Pins.idle c 0
  disp := Display.reset
  tsCounter := 0
  draws := 0
  inputs := []
  trace := []
  rspLog := []

/-- The machine right after reset, under the default configuration (notes/assumptions/4.md). -/
def State.reset : State := State.resetWith Config.default

end Sys2Proof.Machine
end

