-- ==== Sys2Proof/Machine/Operands.lean ====
section
/-! DEFINITION. Operand forms: the chip selector (spec/30_encoding.md R90), the address translation and
pixel mapping (spec/20_memory.md R51, R52), register indices (spec/44_register_access.md R182), glyphs
(spec/41_cursor_text.md R125) and sample positions (spec/42_waveform.md R142). -/

namespace Sys2Proof.Machine

/-- Chip selector decoding (R90): 1 and 2 name a chip, 0 and 3 are `NONE`. -/
def decodeChip (ch : BitVec 2) : Option Chip :=
  if ch = 1 then some .one else if ch = 2 then some .two else none

/-- `chipOf(c)` (R51). -/
def chipOf (c : BitVec 7) : Chip := if c.toNat < 64 then .one else .two

/-- `localOf(c)` (R51), "equivalently c[5:0]". -/
def localOf (c : BitVec 7) : BitVec 6 := c.extractLsb' 0 6

/-- A chip's number, as the spec numbers them (R51). -/
def Chip.number : Chip → Nat
  | .one => 1
  | .two => 2

/-- The number the model gives the display byte (chip, page, local column) (R50): 0..1023. DESIGN CHOICE, safe
(notes/assumptions/21.md): a label of the model, no value of the hardware. -/
def dispAddr (k : Chip) (page : BitVec 3) (loc : BitVec 6) : Nat :=
  (match k with | .one => 0 | .two => 512) + 64 * page.toNat + loc.toNat

/-- The display byte of the logical address (page, c) (R51). -/
def logicalAddr (page : BitVec 3) (c : BitVec 7) : Nat := dispAddr (chipOf c) page (localOf c)

/-- `pg(r) = r div 8`: the page of pixel row r (R52). -/
def rowPage (r : Nat) : BitVec 3 := BitVec.ofNat 3 (r / 8)

/-- `bit(r) = 1 << (r mod 8)`: the bit of pixel row r inside its byte (R52). -/
def rowBit (r : Nat) : Byte := 1#8 <<< (r % 8)

/-- The page-select command byte (R56). -/
def pageByte (c : Config) (page : BitVec 3) : Byte := c.cmdPageBase ||| page.zeroExtend 8

/-- The column-select command byte (R56). -/
def colByte (c : Config) (loc : BitVec 6) : Byte := c.cmdColBase ||| loc.zeroExtend 8

/-- Register index decoding (R182); `none` for an unassigned index (R88). -/
def Reg.ofIndex (idx : BitVec 8) : Option Reg :=
  match idx.toNat with
  | 0x00 => some .status
  | 0x01 => some .cursor
  | 0x02 => some .periodCfg
  | 0x03 => some .waveT
  | 0x04 => some .waveBuf0
  | 0x05 => some .waveBuf1
  | 0x06 => some .waveBuf2
  | 0x07 => some .waveBuf3
  | 0x08 => some .prevRise
  | 0x09 => some .periodTicks
  | 0x0A => some .highTicks
  | 0x0B => some .snapPeriod
  | 0x0C => some .snapHigh
  | _ => none

/-- `GLYPH(code)` (R125): the five column bytes, left to right; `none` for a code outside 32..90, which has
no glyph. -/
def glyphOf (c : Config) (code : Byte) : Option (List Byte) :=
  if h : 32 ≤ code.toNat ∧ code.toNat ≤ 90 then
    some (c.glyph[code.toNat - 32]'(by omega)).toList
  else none

/-- `level(s)` (42_waveform.md): the row a sample is drawn at. -/
def level (c : Config) (s : Bool) : Nat := if s then c.yHigh else c.yLow

/-- `WAVE_BUF[x]` of a buffer (R23). -/
def sampleAt (buf : BitVec 128) (x : Nat) : Bool := buf.getLsbD x

/-- The buffer shift of R143: every entry takes the next one's value, entry 127 takes `s`. -/
def shiftIn (s : Bool) (buf : BitVec 128) : BitVec 128 := BitVec.cons s (buf.extractLsb' 1 127)

/-- `highPixels` of R142: round(P × d / 100), halves rounded up. -/
def highPixels (period duty : Nat) : Nat := (period * duty + 50) / 100

end Sys2Proof.Machine
end

