-- ==== Sys2Proof/Machine/Flags.lean ====
section
/-! DEFINITION. The block has no flags register (spec/10_state.md R20). Its status bits and every word
READ_REG can answer are laid out here (spec/44_register_access.md R182, R183). -/

namespace Sys2Proof.Machine

/-- `PHASE` as its bit (R27). -/
def CapPhase.bit : CapPhase → Bool
  | .awaitingRising => false
  | .awaitingFalling => true

/-- The STATUS word (R183): bit 0 `ILL`, bit 1 `MEAS_READY`, bit 2 `PHASE`, bits 7:4 `ILL_CAUSE`, every
other bit 0. -/
def State.statusWord (s : State) : Word :=
  0#24 ++ s.illCause ++ 0#1 ++ BitVec.ofBool s.phase.bit ++ BitVec.ofBool s.measReady ++ BitVec.ofBool s.ill

/-- The CURSOR word (R182): bits 10:8 `CUR_PAGE`, bits 6:0 `CUR_COL`. -/
def State.cursorWord (s : State) : Word := 0#21 ++ s.curPage ++ 0#1 ++ s.curCol

/-- Word k of the sample buffer (R182): bit j is `WAVE_BUF[32 k + j]`. -/
def State.waveBufWord (s : State) (k : Nat) : Word := s.waveBuf.extractLsb' (32 * k) 32

/-- `RegWord(idx)` (R182). -/
def State.regWord (s : State) : Reg → Word
  | .status => s.statusWord
  | .cursor => s.cursorWord
  | .periodCfg => s.pixelPeriod.zeroExtend 32
  | .waveT => s.waveT.zeroExtend 32
  | .waveBuf0 => s.waveBufWord 0
  | .waveBuf1 => s.waveBufWord 1
  | .waveBuf2 => s.waveBufWord 2
  | .waveBuf3 => s.waveBufWord 3
  | .prevRise => s.prevRise
  | .periodTicks => s.periodTicks
  | .highTicks => s.highTicks
  | .snapPeriod => s.snapPeriod
  | .snapHigh => s.snapHigh

end Sys2Proof.Machine
end

