-- ==== Sys2Proof/Machine/Ops.lean ====
section
/-! DEFINITION. The named operations over display memory, controllers, bus and registers
(spec/20_memory.md, spec/43_edge_capture.md), and IllegalCommand (spec/60_exceptions.md R201), which is the
block's only exception-like operation; there is no return from it (R200, R205). -/

namespace Sys2Proof.Machine

/-! ### Display memory (R50) -/

/-- The byte written at an address, if one was. -/
def Mem.byteAt : Mem → Nat → Option Byte
  | [], _ => none
  | (a, b) :: m, x => if x = a then some b else if x < a then none else Mem.byteAt m x

/-- Write one byte, keeping the list in order of address. -/
def Mem.store : Mem → Nat → Byte → Mem
  | [], x, v => [(x, v)]
  | (a, b) :: m, x, v =>
    if x < a then (x, v) :: (a, b) :: m
    else if x = a then (x, v) :: m
    else (a, b) :: Mem.store m x v

/-- Addresses strictly rising from `lo` on, each below 1024. -/
def Mem.risingFrom : Nat → Mem → Bool
  | _, [] => true
  | lo, (a, _) :: m => decide (lo ≤ a ∧ a < 1024) && Mem.risingFrom (a + 1) m

/-- The canonical form of the display memory: addresses strictly rising, inside the 1024 bytes of R50. -/
def Mem.wf (m : Mem) : Bool := Mem.risingFrom 0 m

/-- `RAM_k[page][local]` by display address: the byte written there last, else what the power-up left. -/
def Display.byteAt (d : Display) (a : Nat) : Byte := (d.ram.byteAt a).getD (Config.powerUpByte d.epoch a)

/-- The display byte at a display address, in a state. -/
def State.ramByte (s : State) (a : Nat) : Byte := s.disp.byteAt a

/-- Pixel row r at logical column x: bit r mod 8 of the display byte at (r div 8, x) (R52). -/
def State.pixel (s : State) (r x : Nat) : Bool :=
  (s.ramByte (logicalAddr (rowPage r) (BitVec.ofNat 7 x))).getLsbD (r % 8)

/-! ### The display controllers (R61) -/

/-- The controller of a chip. -/
def Display.ctl (d : Display) : Chip → Controller
  | .one => d.c1
  | .two => d.c2

/-- The display with one chip's pointers replaced. -/
def Display.setCtl (d : Display) (k : Chip) (c : Controller) : Display :=
  match k with
  | .one => { d with c1 := c }
  | .two => { d with c2 := c }

/-- The display address chip k's pointers name. -/
def Display.pointer (d : Display) (k : Chip) : Nat := dispAddr k (d.ctl k).page (d.ctl k).col

/-- `on BusCmd(k, b)` (R61): a page-select or column-select byte sets a pointer, any other changes nothing
(U11, notes/assumptions/25.md). -/
def Display.onCmd (cfg : Config) (k : Chip) (b : Byte) (d : Display) : Display :=
  if b &&& 0xF8 = cfg.cmdPageBase then d.setCtl k { d.ctl k with page := b.extractLsb' 0 3 }
  else if b &&& 0xC0 = cfg.cmdColBase then d.setCtl k { d.ctl k with col := b.extractLsb' 0 6 }
  else d

/-- `CL_k <- (CL_k + 1) mod 64` if `DISP_AUTOINC` (R61). -/
def Display.advance (cfg : Config) (k : Chip) (d : Display) : Display :=
  if cfg.dispAutoinc then d.setCtl k { d.ctl k with col := (d.ctl k).col + 1 } else d

/-- `on BusWrData(k, b)` (R61). -/
def Display.onWrite (cfg : Config) (k : Chip) (b : Byte) (d : Display) : Display :=
  Display.advance cfg k { d with ram := d.ram.store (d.pointer k) b }

/-- The display after a power-up or a display reset (R221, R223, R224, U2, U3): every pointer and every byte
any value. -/
def Display.powerUp (draw : Nat) (d : Display) : Display where
  c1 := ⟨Config.powerUpPage draw 1, Config.powerUpCol draw 1⟩
  c2 := ⟨Config.powerUpPage draw 2, Config.powerUpCol draw 2⟩
  ram := []
  epoch := d.epoch + 1

/-! ### One bus transaction (R53-R55) -/

/-- A record added to the bus trace (R53). -/
def State.log (r : BusRecord) (s : State) : State := { s with trace := r :: s.trace }

/-- The bus trace in the order the transactions took place. -/
def State.busTrace (s : State) : List BusRecord := s.trace.reverse

/-- `Respond(w)` (R10): append a word to the command's responses. -/
def State.respond (ws : List Word) (s : State) : State := { s with rsp := s.rsp ++ ws }

/-- `BusCmd(chip, b)` (R53). With `NONE` no controller sees it (R54). -/
def busCmd (k : Option Chip) (b : Byte) (s : State) : State :=
  match k, s.cfg.display with
  | some k', .conforming => { s with disp := s.disp.onCmd s.cfg k' b }.log (.C k b)
  | _, _ => s.log (.C k b)

/-- `BusWrData(chip, b)` (R53). With `NONE` the byte is lost (R54). -/
def busWrData (k : Option Chip) (b : Byte) (s : State) : State :=
  match k, s.cfg.display with
  | some k', .conforming => { s with disp := s.disp.onWrite s.cfg k' b }.log (.D k b)
  | _, _ => s.log (.D k b)

/-- The byte a data read samples (R54, R55, R61): the controller's byte at its pointer, or, from a bus nobody
drives, a fresh free value. -/
def readByteOf (k : Option Chip) (s : State) : Byte :=
  match k, s.cfg.display with
  | some k', .conforming => s.ramByte (s.disp.pointer k')
  | _, _ => Config.undrivenByte s.draws

/-- `BusRdData(chip)` (R53), all but the use of the byte. -/
def busRdData (k : Option Chip) (s : State) : State :=
  match k, s.cfg.display with
  | some k', .conforming =>
    { s with disp := s.disp.advance s.cfg k' }.log (.R k (readByteOf k s))
  | _, _ => { s with draws := s.draws + 1 }.log (.R k (readByteOf k s))

/-- What becomes of the byte read. -/
def useRead (u : ReadUse) (v : Byte) (s : State) : State :=
  match u with
  | .discard => s
  | .latch => { s with rdLatch := v }
  | .respond => s.respond [v.zeroExtend 32]

/-- What a transaction does beside its pins: the controller's response, the byte sampled, the trace. -/
def busEffect (t : Txn) (s : State) : State :=
  match t with
  | .cmd k b => busCmd k b s
  | .write k b => busWrData k b s
  | .writeOr k mask => busWrData k (s.rdLatch ||| mask) s
  | .read k u => useRead u (readByteOf k s) (busRdData k s)

/-- The pins back at the idle levels (R35); `lcd_db_out` is then any value (U4). -/
def releaseBus (s : State) : State :=
  { s with pins := Pins.idle s.cfg (Config.idleDbOut s.draws), draws := s.draws + 1 }

/-- One whole bus transaction (R53): "A model at transaction level treats one transaction as one indivisible
step". -/
def transact (t : Txn) (s : State) : State := releaseBus (busEffect t s)

/-! ### The pins during a transaction (R53) -/

/-- The chip a transaction selects. -/
def Txn.chip : Txn → Option Chip
  | .cmd k _ => k
  | .write k _ => k
  | .writeOr k _ => k
  | .read k _ => k

/-- Step 1 of R53: `lcd_rs`, `lcd_rw`, and the data bus driven for a write, released for a read (R55). `latch` is
the byte RmwOr has read. `free` is the level of `lcd_db_out` during a read, which no rule gives: DESIGN CHOICE, a
free value held until the transaction ends (notes/assumptions/10.md). -/
def Pins.drive (t : Txn) (latch free : Byte) (p : Pins) : Pins :=
  match t with
  | .cmd _ b => { p with rs := false, rw := false, dbOe := true, dbOut := b }
  | .write _ b => { p with rs := true, rw := false, dbOe := true, dbOut := b }
  | .writeOr _ mask => { p with rs := true, rw := false, dbOe := true, dbOut := latch ||| mask }
  | .read _ _ => { p with rs := true, rw := true, dbOe := false, dbOut := free }

/-- Step 2 of R53: exactly one chip-select asserted, or neither for `NONE`. -/
def Pins.selectChip (c : Config) (k : Option Chip) (p : Pins) : Pins :=
  match k with
  | some .one => { p with cs1 := c.csActiveHigh, cs2 := !c.csActiveHigh }
  | some .two => { p with cs1 := !c.csActiveHigh, cs2 := c.csActiveHigh }
  | none => { p with cs1 := !c.csActiveHigh, cs2 := !c.csActiveHigh }

/-- Begin a transaction: step 1 of R53. -/
def startTxn (t : Txn) (s : State) : State :=
  { s with pins := s.pins.drive t s.rdLatch (Config.readDbOut s.draws), flight := some ⟨t, .mode, 0⟩ }

/-- One `clk` cycle of a transaction in progress (R53, R234): count its step's minimum down, then go on to
the next step. The transaction takes effect at the fall of `lcd_e` (notes/assumptions/11.md). -/
def tickFlight (f : Flight) (s : State) : State :=
  match f.left with
  | n + 1 => { s with flight := some { f with left := n } }
  | 0 =>
    match f.stage with
    | .mode =>
      { s with pins := s.pins.selectChip s.cfg f.txn.chip, flight := some ⟨f.txn, .select, s.cfg.tSetup - 1⟩ }
    | .select =>
      { s with pins := { s.pins with e := true }, flight := some ⟨f.txn, .enable, s.cfg.tPw - 1⟩ }
    | .enable =>
      busEffect f.txn
        { s with pins := { s.pins with e := false }, flight := some ⟨f.txn, .hold, s.cfg.tHold - 1⟩ }
    | .hold => releaseBus { s with flight := none }

/-- The rest of a transaction in progress, at once. -/
def finishFlight (f : Flight) (s : State) : State :=
  match f.stage with
  | .hold => releaseBus { s with flight := none }
  | _ => transact f.txn { s with flight := none }

/-! ### IllegalCommand (R201) -/

/-- `IllegalCommand(cause)`: `ILL` set, `ILL_CAUSE` kept from the first, nothing else. -/
def illegalCommand (c : Cause) (s : State) : State :=
  { s with ill := true, illCause := if s.ill then s.illCause else c.code }

/-! ### Edge capture (R160-R165) -/

/-- A value reduced to TS_W bits. -/
def tsMask (cfg : Config) (v : Word) : Word := BitVec.ofNat 32 (v.toNat % 2 ^ cfg.tsW)

/-- `TickSub(a, b) = (a - b) mod 2^TS_W` (R164). -/
def tickSub (cfg : Config) (a b : Word) : Word := tsMask cfg (a - b)

/-- An edge event with timestamp T (R160): R161 for a rising one awaited, R162 for a falling one awaited,
R163 for any other. -/
def captureEvent (rising : Bool) (T : Word) (s : State) : State :=
  match rising, s.phase with
  | true, .awaitingRising =>
    { s with periodTicks := tickSub s.cfg T s.prevRise, prevRise := T, phase := .awaitingFalling }
  | false, .awaitingFalling =>
    { s with highTicks := tickSub s.cfg T s.prevRise, phase := .awaitingRising, measReady := true }
  | _, _ => s

/-- The free-running counter after some ticks: it wraps modulo 2^TS_W (R160, 90_conflicts.md C3). -/
def advanceCounter (cfg : Config) (ticks : Nat) (c : Word) : Word :=
  BitVec.ofNat 32 ((c.toNat + ticks) % 2 ^ cfg.tsW)

/-! ### Measurement derivation (R167-R169) -/

/-- `Freq(P)` (R167). -/
def freqOf (cfg : Config) (period : Nat) : Nat := if period = 0 then 0 else cfg.tickRateHz / period

/-- `Duty(P, H)` (R168). -/
def dutyOf (period high : Nat) : Nat := if period = 0 then 0 else min (high * 100 / period) 100

/-- `PeriodUs(P)` (R169). -/
def periodUsOf (cfg : Config) (period : Nat) : Nat := period * cfg.tickUsNum / cfg.tickUsDen

/-- The four response words of DERIVE (R170); the 64-bit period low word first (R63). -/
def State.deriveWords (s : State) : List Word :=
  let u := periodUsOf s.cfg s.snapPeriod.toNat
  [BitVec.ofNat 32 (freqOf s.cfg s.snapPeriod.toNat),
    BitVec.ofNat 32 (dutyOf s.snapPeriod.toNat s.snapHigh.toNat),
    BitVec.ofNat 32 u,
    BitVec.ofNat 32 (u / 2 ^ 32)]

/-! ### Register steps of the sequencer -/

/-- The sample the next render step produces (R142). -/
def State.nextSample (duty : Nat) (s : State) : Bool :=
  decide (s.waveT.toNat < highPixels s.pixelPeriod.toNat duty)

/-- `SampleGen(duty)` and the shift (R142, R143). -/
def sampleStep (duty : Nat) (s : State) : State :=
  { s with
    waveBuf := shiftIn (s.nextSample duty) s.waveBuf
    waveT := BitVec.ofNat 7 ((s.waveT.toNat + 1) % s.pixelPeriod.toNat) }

/-- The atomic step of CONSUME (R166, R70). -/
def consumeHandoff (s : State) : State :=
  if s.measReady then
    { s with snapPeriod := s.periodTicks, snapHigh := s.highTicks, measReady := false }
  else s

/-- CONSUME's step and its responses: the ready bit as read, then the snapshot as it stands after (R166). -/
def consumeStep (s : State) : State :=
  let t := consumeHandoff s
  t.respond [(BitVec.ofBool s.measReady).zeroExtend 32, t.snapPeriod, t.snapHigh]

/-- One indivisible step of the sequencer (R11). -/
def runOp (op : MicroOp) (s : State) : State :=
  match op with
  | .bus t => transact t s
  | .setCursor page col => { s with curPage := page, curCol := col }
  | .setPeriod per => { s with pixelPeriod := per, waveT := 0 }
  | .sample duty => sampleStep duty s
  | .consume => consumeStep s
  | .derive => s.respond s.deriveWords
  | .readReg r => s.respond [s.regWord r]
  | .illegal c => illegalCommand c s

/-- A command's steps, one after the other (R67). -/
def run : List MicroOp → State → State
  | [], s => s
  | op :: ops, s => run ops (runOp op s)

/-! ### Addressed access primitives (R56-R60) -/

/-- `SetAddress(page, c)` (R56). -/
def setAddressOps (cfg : Config) (page : BitVec 3) (c : BitVec 7) : List MicroOp :=
  [.bus (.cmd (some (chipOf c)) (pageByte cfg page)), .bus (.cmd (some (chipOf c)) (colByte cfg (localOf c)))]

/-- `ReadData(k)` (R57). -/
def readDataOps (cfg : Config) (k : Chip) : List MicroOp :=
  if cfg.dummyRead then [.bus (.read (some k) .discard), .bus (.read (some k) .latch)]
  else [.bus (.read (some k) .latch)]

/-- `AddrWrite(page, c, b)` (R58). -/
def addrWriteOps (cfg : Config) (page : BitVec 3) (c : BitVec 7) (b : Byte) : List MicroOp :=
  setAddressOps cfg page c ++ [.bus (.write (some (chipOf c)) b)]

/-- `AddrRead(page, c)` (R59). -/
def addrReadOps (cfg : Config) (page : BitVec 3) (c : BitVec 7) : List MicroOp :=
  setAddressOps cfg page c ++ readDataOps cfg (chipOf c)

/-- `RmwOr(r, c)` (R60). -/
def rmwOrOps (cfg : Config) (r : Nat) (c : BitVec 7) : List MicroOp :=
  addrReadOps cfg (rowPage r) c ++
    (setAddressOps cfg (rowPage r) c ++ [.bus (.writeOr (some (chipOf c)) (rowBit r))])

end Sys2Proof.Machine
end

