-- ==== Sys2Proof/Machine/Access.lean ====
section
/-! DEFINITION. NOP and READ_REG (spec/44_register_access.md R180-R183). -/

namespace Sys2Proof.Machine

/-- NOP (R180): "Pseudocode: nothing." -/
def progNop : List MicroOp := []

/-- READ_REG (R181). An index over 0x0C is IllegalCommand cause 4, with no response word. -/
def progReadReg (idx : BitVec 8) : List MicroOp :=
  match Reg.ofIndex idx with
  | some r => [.readReg r]
  | none => [.illegal .registerIndex]

/-- NOP, run to its end. -/
def execNop (s : State) : Host.Outcome State Fault Refusal := .next (run progNop s)

/-- READ_REG, run to its end. -/
def execReadReg (idx : BitVec 8) (s : State) : Host.Outcome State Fault Refusal :=
  .next (run (progReadReg idx) s)

end Sys2Proof.Machine
end

