-- ==== Sys2Proof/Machine/Bus.lean ====
section
/-! DEFINITION. The DisplayController commands (spec/40_display_controller.md R100-R104). -/

namespace Sys2Proof.Machine

/-- SEND_CMD (R101): `BusCmd(decodeChip(CH), DATA)`. -/
def progSendCmd (ch : BitVec 2) (data : Byte) : List MicroOp := [.bus (.cmd (decodeChip ch) data)]

/-- WRITE_BYTE (R102): `BusWrData(decodeChip(CH), DATA)`, at the controller's pointer. -/
def progWriteByte (ch : BitVec 2) (data : Byte) : List MicroOp := [.bus (.write (decodeChip ch) data)]

/-- READ_BYTE (R103): exactly one read transaction, whatever `DUMMY_READ` is, and one response word. -/
def progReadByte (ch : BitVec 2) : List MicroOp := [.bus (.read (decodeChip ch) .respond)]

/-- SET_ADDRESS (R104): `SetAddress(PG, COL)`. -/
def progSetAddress (pg : BitVec 3) (col : BitVec 7) (s : State) : List MicroOp := setAddressOps s.cfg pg col

/-- SEND_CMD, run to its end. -/
def execSendCmd (ch : BitVec 2) (data : Byte) (s : State) : Host.Outcome State Fault Refusal :=
  .next (run (progSendCmd ch data) s)

/-- WRITE_BYTE, run to its end. -/
def execWriteByte (ch : BitVec 2) (data : Byte) (s : State) : Host.Outcome State Fault Refusal :=
  .next (run (progWriteByte ch data) s)

/-- READ_BYTE, run to its end. -/
def execReadByte (ch : BitVec 2) (s : State) : Host.Outcome State Fault Refusal :=
  .next (run (progReadByte ch) s)

/-- SET_ADDRESS, run to its end. -/
def execSetAddress (pg : BitVec 3) (col : BitVec 7) (s : State) : Host.Outcome State Fault Refusal :=
  .next (run (progSetAddress pg col s) s)

end Sys2Proof.Machine
end

