-- ==== Sys2Proof/Machine/Measure.lean ====
section
/-! DEFINITION. CONSUME and DERIVE (spec/43_edge_capture.md R166, R170). -/

namespace Sys2Proof.Machine

/-- CONSUME (R166): one indivisible step, then its three responses. -/
def progConsume : List MicroOp := [.consume]

/-- DERIVE (R170): four responses computed from the snapshot. -/
def progDerive : List MicroOp := [.derive]

/-- CONSUME, run to its end. -/
def execConsume (s : State) : Host.Outcome State Fault Refusal := .next (run progConsume s)

/-- DERIVE, run to its end. -/
def execDerive (s : State) : Host.Outcome State Fault Refusal := .next (run progDerive s)

end Sys2Proof.Machine
end

