-- ==== Sys2Proof/Machine/Text.lean ====
section
/-! DEFINITION. The cursor and glyph rasterizer commands (spec/41_cursor_text.md R120-R126). -/

namespace Sys2Proof.Machine

/-- The cursor one position on (R121): "if column reaches 128, wrap column to 0 and advance page by 1
modulo 8". -/
def nextCursor (page : BitVec 3) (col : BitVec 7) : BitVec 3 × BitVec 7 :=
  if col.toNat + 1 = 128 then (page + 1, 0) else (page, col + 1)

/-- `Advance()` (R121). Reaching column 64 addresses chip 2 anew; the wrap at 128 issues no transaction. -/
def advanceOps (cfg : Config) (page : BitVec 3) (col : BitVec 7) : List MicroOp :=
  .setCursor (nextCursor page col).1 (nextCursor page col).2 ::
    (if col.toNat + 1 = 64 then setAddressOps cfg page 64 else [])

/-- The loop of R122 over the bytes still to write, from a cursor position. -/
def glyphOps (cfg : Config) : BitVec 3 → BitVec 7 → List Byte → List MicroOp
  | _, _, [] => []
  | page, col, b :: bs =>
    addrWriteOps cfg page col b ++ advanceOps cfg page col ++
      glyphOps cfg (nextCursor page col).1 (nextCursor page col).2 bs

/-- GOTOXY (R120). -/
def progGotoxy (pg : BitVec 3) (col : BitVec 7) (s : State) : List MicroOp :=
  .setCursor pg col :: setAddressOps s.cfg pg col

/-- DISPLAY_CHAR (R122): the glyph's five bytes and the blank column; nothing for a code that has no glyph
(R123). -/
def progDisplayChar (code : Byte) (s : State) : List MicroOp :=
  match glyphOf s.cfg code with
  | some g => glyphOps s.cfg s.curPage s.curCol (g ++ [0x00])
  | none => []

/-- GOTOXY, run to its end. -/
def execGotoxy (pg : BitVec 3) (col : BitVec 7) (s : State) : Host.Outcome State Fault Refusal :=
  .next (run (progGotoxy pg col s) s)

/-- DISPLAY_CHAR, run to its end. -/
def execDisplayChar (code : Byte) (s : State) : Host.Outcome State Fault Refusal :=
  .next (run (progDisplayChar code s) s)

end Sys2Proof.Machine
end

