-- ==== Sys2Proof/Machine/Wave.lean ====
section
/-! DEFINITION. The scrolling waveform renderer commands (spec/42_waveform.md R140-R152). -/

namespace Sys2Proof.Machine

/-- `Erase()` (R144): every byte of the trace region, page by page, within a page column by column. -/
def eraseOps (cfg : Config) : List MicroOp :=
  (List.range' cfg.tracePageLo (cfg.tracePageHi + 1 - cfg.tracePageLo)).flatMap fun p =>
    (List.range 128).flatMap fun c => addrWriteOps cfg (BitVec.ofNat 3 p) (BitVec.ofNat 7 c) 0x00

/-- `HSeg(x, y)` (R145): rows y and y + 1 by plain writes, one a page when they lie in two. -/
def hsegOps (cfg : Config) (x : BitVec 7) (y : Nat) : List MicroOp :=
  if rowPage y = rowPage (y + 1) then addrWriteOps cfg (rowPage y) x (rowBit y ||| rowBit (y + 1))
  else addrWriteOps cfg (rowPage y) x (rowBit y) ++ addrWriteOps cfg (rowPage (y + 1)) x (rowBit (y + 1))

/-- One column of a connector: every row from TOP to BOT by read-modify-write (R146). -/
def vcolOps (cfg : Config) (c : BitVec 7) : List MicroOp :=
  (List.range' cfg.top (cfg.bot + 1 - cfg.top)).flatMap fun r => rmwOrOps cfg r c

/-- `VConn(x)` (R146): column x, then column x - 1. -/
def vconnOps (cfg : Config) (x : BitVec 7) : List MicroOp := vcolOps cfg x ++ vcolOps cfg (x - 1)

/-- Whether the trace has an edge at column x (R146, R152); there is none at column 0. -/
def edgeAt (cfg : Config) (buf : BitVec 128) (x : Nat) : Bool :=
  decide (1 ≤ x ∧ level cfg (sampleAt buf x) ≠ level cfg (sampleAt buf (x - 1)))

/-- Column x of the trace: its segment, then its connector if it has an edge (R147). -/
def columnOps (cfg : Config) (buf : BitVec 128) (x : Nat) : List MicroOp :=
  hsegOps cfg (BitVec.ofNat 7 x) (level cfg (sampleAt buf x)) ++
    (if edgeAt cfg buf x then vconnOps cfg (BitVec.ofNat 7 x) else [])

/-- The drawing loop of R147, over the buffer as it stands after the shift. -/
def drawOps (cfg : Config) (buf : BitVec 128) : List MicroOp := (List.range 128).flatMap (columnOps cfg buf)

/-- `RenderStep(d)` (R147): sample and shift, erase, draw. -/
def renderOps (duty : Nat) (s : State) : List MicroOp :=
  .sample duty :: (eraseOps s.cfg ++ drawOps s.cfg (sampleStep duty s).waveBuf)

/-- WAVE_CONFIG (R141). `PER` = 0 is IllegalCommand cause 3, and the command then has no effect. -/
def progWaveConfig (per : BitVec 7) : List MicroOp :=
  if per = 0 then [.illegal .operandDomain] else [.setPeriod per]

/-- WAVE_STEP (R148). `DUTY` over 100 is IllegalCommand cause 3, and the command then has no effect. -/
def progWaveStep (duty : BitVec 7) (s : State) : List MicroOp :=
  if 100 < duty then [.illegal .operandDomain] else renderOps duty.toNat s

/-- WAVE_STEP_M (R149): the duty of the snapshot (R168). -/
def progWaveStepM (s : State) : List MicroOp := renderOps (dutyOf s.snapPeriod.toNat s.snapHigh.toNat) s

/-- WAVE_CONFIG, run to its end. -/
def execWaveConfig (per : BitVec 7) (s : State) : Host.Outcome State Fault Refusal :=
  .next (run (progWaveConfig per) s)

/-- WAVE_STEP, run to its end. -/
def execWaveStep (duty : BitVec 7) (s : State) : Host.Outcome State Fault Refusal :=
  .next (run (progWaveStep duty s) s)

/-- WAVE_STEP_M, run to its end. -/
def execWaveStepM (s : State) : Host.Outcome State Fault Refusal := .next (run (progWaveStepM s) s)

end Sys2Proof.Machine
end

