-- ==== Sys2Proof/Machine/Dispatch.lean ====
section
/-! DEFINITION. What each command does when it is run to its end, by the row of spec/opcode_table.json. -/

namespace Sys2Proof.Machine

def exec (i : Instr) (s : State) : Host.Outcome State Fault Refusal :=
  match i with
  | .nop => Sys2Proof.Machine.execNop s
  | .sendCmd ch data => Sys2Proof.Machine.execSendCmd ch data s
  | .writeByte ch data => Sys2Proof.Machine.execWriteByte ch data s
  | .readByte ch => Sys2Proof.Machine.execReadByte ch s
  | .setAddress pg col => Sys2Proof.Machine.execSetAddress pg col s
  | .gotoxy pg col => Sys2Proof.Machine.execGotoxy pg col s
  | .displayChar code => Sys2Proof.Machine.execDisplayChar code s
  | .waveConfig per => Sys2Proof.Machine.execWaveConfig per s
  | .waveStep duty => Sys2Proof.Machine.execWaveStep duty s
  | .waveStepM => Sys2Proof.Machine.execWaveStepM s
  | .consume => Sys2Proof.Machine.execConsume s
  | .derive => Sys2Proof.Machine.execDerive s
  | .readReg idx => Sys2Proof.Machine.execReadReg idx s

end Sys2Proof.Machine
end

