-- ==== Sys2Proof/Machine/Ports.lean ====
section
/-! DEFINITION. The output ports of the block (spec/00_scope.md R6) as functions of the state. -/

namespace Sys2Proof.Machine

/-- The sequencer is IDLE (R34): no step, no transaction and no response outstanding. -/
def State.idle (s : State) : Bool := s.remaining.isEmpty && s.flight.isNone && s.rsp.isEmpty

/-- `cmd_ready`: 1 when the sequencer is idle (R34, D40), 0 during reset (R222). -/
def State.cmdReady (s : State) : Bool := s.idle && s.pins.rstN

/-- `rsp_valid`: a response word is offered once the command's last transaction has completed (R34). -/
def State.rspValid (s : State) : Bool := s.remaining.isEmpty && s.flight.isNone && !s.rsp.isEmpty

/-- `rsp_word`, while `rsp_valid` is 1. -/
def State.rspWord (s : State) : Option Word := if s.rspValid then s.rsp.head? else none

/-- `cap_arm_rising = 1 - PHASE` (R27). -/
def State.capArmRising (s : State) : Bool := !s.phase.bit

/-- `meas_ready`: a level equal to `MEAS_READY` (R30, R204). -/
def State.measReadyPort (s : State) : Bool := s.measReady

/-- `lcd_cs1` is asserted, whatever its polarity (R6, D6). -/
def State.cs1Asserted (s : State) : Bool := s.pins.cs1 == s.cfg.csActiveHigh

/-- `lcd_cs2` is asserted, whatever its polarity (R6, D6). -/
def State.cs2Asserted (s : State) : Bool := s.pins.cs2 == s.cfg.csActiveHigh

/-- Every output port of R6. -/
structure Outputs where
  cmdReady : Bool
  rspValid : Bool
  rspWord : Option Word
  capArmRising : Bool
  measReady : Bool
  lcd : Pins
  deriving DecidableEq, Repr

/-- The output ports in a state. The `lcd` pins are the pin registers, `lcd_rst_n` among them (R35). -/
def State.outputs (s : State) : Outputs where
  cmdReady := s.cmdReady
  rspValid := s.rspValid
  rspWord := s.rspWord
  capArmRising := s.capArmRising
  measReady := s.measReadyPort
  lcd := s.pins

end Sys2Proof.Machine
end

