-- ==== Sys2Proof/Machine/Sequencer.lean ====
section
/-! DEFINITION. One slot of the machine's time: reset (spec/70_reset_and_hazards.md R220-R224), the edge
event (spec/43_edge_capture.md R160), the command and response handshakes (spec/10_state.md R34) and the
sequencer's progress (spec/20_memory.md R65, R67). -/

namespace Sys2Proof.Machine

/-- The steps of a command, fixed when it is accepted: it reads no register that can change while it runs,
but for the steps of CONSUME and READ_REG, which read theirs when they are made (R171). -/
def programOf (i : Instr) (s : State) : List MicroOp :=
  match i with
  | .nop => progNop
  | .sendCmd ch data => progSendCmd ch data
  | .writeByte ch data => progWriteByte ch data
  | .readByte ch => progReadByte ch
  | .setAddress pg col => progSetAddress pg col s
  | .gotoxy pg col => progGotoxy pg col s
  | .displayChar code => progDisplayChar code s
  | .waveConfig per => progWaveConfig per
  | .waveStep duty => progWaveStep duty s
  | .waveStepM => progWaveStepM s
  | .consume => progConsume
  | .derive => progDerive
  | .readReg idx => progReadReg idx

/-- Accept a command and leave all its steps outstanding: BUSY (R34). -/
def begin (i : Instr) (s : State) : State := { s with remaining := programOf i s }

/-- What the block does with an accepted word (R80, R91, R201). An illegal word "completes within the cycle
the word is accepted" (R205). At pace `command` a legal command runs to its end; at any other it begins. -/
def acceptWord (w : Word) (pace : Pace) (s : State) : Host.Outcome State Fault Refusal :=
  match decode w with
  | .error c => .next (illegalCommand c s)
  | .ok i =>
    match pace with
    | .command => exec i s
    | .wait | .cycle | .transaction => .next (begin i s)

/-- One `clk` cycle of a busy sequencer. -/
def tickCycle (s : State) : State :=
  match s.flight, s.remaining with
  | some f, _ => tickFlight f s
  | none, .bus t :: ops => startTxn t { s with remaining := ops }
  | none, op :: ops => runOp op { s with remaining := ops }
  | none, [] => s

/-- One indivisible step of a busy sequencer, to its end (R11). -/
def finishStep (s : State) : State :=
  match s.flight, s.remaining with
  | some f, _ => finishFlight f s
  | none, op :: ops => runOp op { s with remaining := ops }
  | none, [] => s

/-- Everything a busy sequencer still has to do, up to its responses. -/
def finishCommand (s : State) : State :=
  let t := match s.flight with | some f => finishFlight f s | none => s
  run t.remaining { t with remaining := [] }

/-- The progress of a busy sequencer in a slot. -/
def progress (pace : Pace) (s : State) : State :=
  match pace with
  | .wait => s
  | .cycle => tickCycle s
  | .transaction => finishStep s
  | .command => finishCommand s

/-- The host accepts the response word offered (R34). -/
def deliver (s : State) : State :=
  match s.rsp with
  | [] => s
  | w :: ws => { s with rsp := ws, rspLog := w :: s.rspLog }

/-- A cycle with `rst` = 1 (R220-R224): every register takes its reset value, the command and its responses
are abandoned, the word and the event of the same cycle are ignored, the display's state is any value. The
configuration, the timestamp counter and the records of the ports stay. -/
def blockReset (sl : Slot) (s : State) : State :=
  { State.resetWith s.cfg with
    pins := { Pins.idle s.cfg (Config.idleDbOut s.draws) with rstN := false }
    disp := s.disp.powerUp s.draws
    tsCounter := advanceCounter s.cfg sl.ticks s.tsCounter
    draws := s.draws + 1
    inputs := s.inputs
    trace := s.trace
    rspLog := s.rspLog }

/-- What a slot without reset begins with: `lcd_rst_n` is 1, the counter has ticked, and the slot's edge
event has been taken. So an event is applied before CONSUME's step of the same slot (R70). It is applied before
READ_REG's too, which no rule orders: DESIGN CHOICE (notes/assumptions/30.md). -/
def openSlot (sl : Slot) (s : State) : State :=
  let t := { s with
    pins := { s.pins with rstN := true }
    tsCounter := advanceCounter s.cfg sl.ticks s.tsCounter }
  match sl.edge with
  | some rising => captureEvent rising t.tsCounter t
  | none => t

/-- One slot: reset wins over everything (R222). Else an idle sequencer takes the word offered, one with a
response to deliver offers it, and one with steps to make makes progress. -/
def playSlot (sl : Slot) (s : State) : Host.Outcome State Fault Refusal :=
  if sl.rst then .next (blockReset sl s)
  else
    let t := openSlot sl s
    if t.cmdReady then
      match sl.cmd with
      | some w => acceptWord w sl.pace t
      | none => .next t
    else if t.rspValid then .next (if sl.rspReady then deliver t else t)
    else .next (progress sl.pace t)

/-- The slot that comes next. -/
def State.nextSlot (s : State) : Slot := s.inputs.headD Slot.quiet

/-- The state with that slot taken from the schedule. -/
def State.popSlot (s : State) : State := { s with inputs := s.inputs.tail }

/-- The state with a word offered in its next slot, and the sequencer idle to take it. -/
def State.offerWord (w : Word) (s : State) : State :=
  { s with
    remaining := []
    flight := none
    rsp := []
    pins := if s.flight.isSome then Pins.idle s.cfg s.pins.dbOut else s.pins
    inputs := { Slot.quiet with cmd := some w } :: s.inputs }

end Sys2Proof.Machine
end

