-- ==== Sys2Proof/Machine/Step.lean ====
section
/-! DEFINITION. One step of the machine: the next slot is played. -/

namespace Sys2Proof.Machine

/-- One step. A configuration that breaks R5 or R8 is refused (spec/00_scope.md R8). -/
def step (s : State) : Host.Outcome State Fault Refusal :=
  if s.cfg.ok then playSlot s.nextSlot s.popSlot else .refused .illegalConfiguration

/-- The state in which the host offers the opcode table's word in the next slot, at pace `command`: the next
step accepts it and runs it to its end (notes/assumptions/1.md). -/
def State.withFetchWord (s : State) (nbits w : Nat) : State := s.offerWord (tableWord nbits w)

end Sys2Proof.Machine
end

