-- ==== Sys2Proof/Machine/Assembler.lean ====
section
/-! DEFINITION. The assembler syntax and the pseudo-instruction of spec/30_encoding.md R95, R96: one command
a line. A line is a list of characters. The block itself never sees a line, only words. -/

namespace Sys2Proof.Machine

/-- The value of a digit in a base up to 16. -/
def digitValue (base : Nat) (c : Char) : Option Nat :=
  let v :=
    if 48 ≤ c.toNat ∧ c.toNat ≤ 57 then c.toNat - 48
    else if 97 ≤ c.toNat ∧ c.toNat ≤ 102 then c.toNat - 87
    else if 65 ≤ c.toNat ∧ c.toNat ≤ 70 then c.toNat - 55
    else 16
  if v < base then some v else none

/-- A non-empty run of digits. -/
def digits (base : Nat) : Nat → List Char → Option Nat
  | acc, [] => some acc
  | acc, c :: cs => match digitValue base c with
    | some v => digits base (acc * base + v) cs
    | none => none

/-- A number of R95: decimal, `0x` hexadecimal, or one character in single quotes for its ASCII code. -/
def parseNumber : List Char → Option Nat
  | '0' :: 'x' :: c :: cs => digits 16 0 (c :: cs)
  | [q, c, q'] =>
    if q.toNat = 39 ∧ q'.toNat = 39 then (if c.toNat < 128 then some c.toNat else none)
    else digits 10 0 [q, c, q']
  | [] => none
  | cs => digits 10 0 cs

/-- The register names of 44_register_access.md R182, with their indices. -/
def registerNames : List (List Char × Nat) :=
  [("STATUS".toList, 0), ("CURSOR".toList, 1), ("PERIOD_CFG".toList, 2), ("WAVE_T".toList, 3),
   ("WAVE_BUF0".toList, 4), ("WAVE_BUF1".toList, 5), ("WAVE_BUF2".toList, 6), ("WAVE_BUF3".toList, 7),
   ("PREV_RISE".toList, 8), ("PERIOD_TICKS".toList, 9), ("HIGH_TICKS".toList, 10),
   ("SNAP_PERIOD".toList, 11), ("SNAP_HIGH".toList, 12)]

/-- An operand of R95: a number, or for READ_REG a register name. -/
def parseOperand (names : List (List Char × Nat)) (cs : List Char) : Option Nat :=
  match names.lookup cs with
  | some n => some n
  | none => parseNumber cs

/-- A number as a field of w bits. "An assembler refuses an operand outside its stated range and does not
truncate it." -/
def asField (w n : Nat) : Option (BitVec w) := if n < 2 ^ w then some (BitVec.ofNat w n) else none

/-- The command a mnemonic and its operand numbers spell (R95), if every operand is in its range. -/
def assembleInstr (mnemonic : List Char) (ops : List Nat) : Option Instr :=
  let i : Option Instr :=
    if mnemonic = "NOP".toList then (match ops with | [] => some .nop | _ => none)
    else if mnemonic = "SEND_CMD".toList then
      (match ops with | [ch, b] => do return .sendCmd (← asField 2 ch) (← asField 8 b) | _ => none)
    else if mnemonic = "WRITE_BYTE".toList then
      (match ops with | [ch, b] => do return .writeByte (← asField 2 ch) (← asField 8 b) | _ => none)
    else if mnemonic = "READ_BYTE".toList then
      (match ops with | [ch] => do return .readByte (← asField 2 ch) | _ => none)
    else if mnemonic = "SET_ADDRESS".toList then
      (match ops with | [p, c] => do return .setAddress (← asField 3 p) (← asField 7 c) | _ => none)
    else if mnemonic = "GOTOXY".toList then
      (match ops with | [p, c] => do return .gotoxy (← asField 3 p) (← asField 7 c) | _ => none)
    else if mnemonic = "DISPLAY_CHAR".toList then
      (match ops with | [c] => do return .displayChar (← asField 8 c) | _ => none)
    else if mnemonic = "WAVE_CONFIG".toList then
      (match ops with | [p] => do return .waveConfig (← asField 7 p) | _ => none)
    else if mnemonic = "WAVE_STEP".toList then
      (match ops with | [d] => do return .waveStep (← asField 7 d) | _ => none)
    else if mnemonic = "WAVE_STEP_M".toList then (match ops with | [] => some .waveStepM | _ => none)
    else if mnemonic = "CONSUME".toList then (match ops with | [] => some .consume | _ => none)
    else if mnemonic = "DERIVE".toList then (match ops with | [] => some .derive | _ => none)
    else if mnemonic = "READ_REG".toList then
      (match ops with | [x] => do return .readReg (← asField 8 x) | _ => none)
    else none
  match i with
  | some j => if j.wf then some j else none
  | none => none

/-- `DISPLAY_STRING` (R96): one DISPLAY_CHAR per byte, up to and not including the first 0x00. -/
def displayString (text : List Byte) : List Instr := (text.takeWhile (· ≠ 0)).map .displayChar

/-- A line without the spaces at its ends. -/
def trimSpaces (cs : List Char) : List Char :=
  ((cs.dropWhile (· = ' ')).reverse.dropWhile (· = ' ')).reverse

/-- A character in single quotes stands at the front (R95). -/
def startsQuoted : List Char → Bool
  | q :: _ :: q' :: _ => decide (q.toNat = 39 ∧ q'.toNat = 39)
  | _ => false

/-- A character put at the front of the first field. -/
def consFirst (c : Char) : List (List Char) → List (List Char)
  | [] => [[c]]
  | f :: fs => (c :: f) :: fs

/-- The operands of a line, separated by commas (R95). `pass` is how many characters to come belong to a
character in single quotes: a comma among them separates nothing. -/
def splitCommas : Nat → List Char → List (List Char)
  | _, [] => [[]]
  | pass + 1, c :: cs => consFirst c (splitCommas pass cs)
  | 0, c :: cs =>
    if c = ',' then [] :: splitCommas 0 cs
    else consFirst c (splitCommas (if startsQuoted (c :: cs) then 2 else 0) cs)

/-- The bytes of a text in double quotes; none if a character is no byte or a quote is missing. The
first and the last double quote delimit it, and one between them is a byte of the text: R96 gives no rule for
that, DESIGN CHOICE (notes/assumptions/31.md). A character of code 0..255 is the byte of that value, and one of a
higher code is refused with its line: R96 speaks of bytes and names no character encoding, DESIGN CHOICE
(notes/assumptions/32.md). -/
def quotedBytes (cs : List Char) : Option (List Byte) :=
  match cs with
  | [] => none
  | q :: rest =>
    match rest.reverse with
    | [] => none
    | q' :: body =>
      if q.toNat = 34 ∧ q'.toNat = 34 then body.reverse.mapM fun c => asField 8 c.toNat else none

/-- The commands one line stands for (R95, R96); none if the assembler refuses it. -/
def assembleCommands (line : List Char) : Option (List Instr) :=
  let l := trimSpaces line
  let mnemonic := l.takeWhile (· ≠ ' ')
  let rest := trimSpaces (l.dropWhile (· ≠ ' '))
  if mnemonic = "DISPLAY_STRING".toList then (quotedBytes rest).map displayString
  else
    let names := if mnemonic = "READ_REG".toList then registerNames else []
    let operands := if rest = [] then some [] else (splitCommas 0 rest).mapM fun o => parseOperand names (trimSpaces o)
    match operands with
    | some ops => (assembleInstr mnemonic ops).map fun i => [i]
    | none => none

/-- The words one line assembles to. -/
def assembleLine (line : List Char) : Option (List Word) := (assembleCommands line).map fun is => is.map encode

end Sys2Proof.Machine
end

