-- ==== Sys2Proof/Safety.lean ====
section
/-! DEFINITION. The terms statements about the machine are made in: which registers two states agree on, and
the invariants of a good state. -/

namespace Sys2Proof.Machine

/-! ### Agreement on groups of state (spec/10_state.md, section 2) -/

/-- The cursor is the same (R21, R22). -/
def State.sameCursor (s t : State) : Prop := t.curPage = s.curPage ∧ t.curCol = s.curCol

/-- The sample buffer, the phase counter and the pixel-period are the same (R23-R25). -/
def State.sameWave (s t : State) : Prop :=
  t.waveBuf = s.waveBuf ∧ t.waveT = s.waveT ∧ t.pixelPeriod = s.pixelPeriod

/-- The capture registers are the same (R26-R30). -/
def State.sameCapture (s t : State) : Prop :=
  t.prevRise = s.prevRise ∧ t.phase = s.phase ∧ t.periodTicks = s.periodTicks ∧ t.highTicks = s.highTicks ∧
    t.measReady = s.measReady

/-- The snapshot is the same (R31). -/
def State.sameSnapshot (s t : State) : Prop := t.snapPeriod = s.snapPeriod ∧ t.snapHigh = s.snapHigh

/-- The status marks are the same (R32). -/
def State.sameStatus (s t : State) : Prop := t.ill = s.ill ∧ t.illCause = s.illCause

/-- Configuration, timestamp counter, schedule and record of accepted responses are the same: what no command
changes. -/
def State.sameOutside (s t : State) : Prop :=
  t.cfg = s.cfg ∧ t.tsCounter = s.tsCounter ∧ t.inputs = s.inputs ∧ t.rspLog = s.rspLog

/-- The steps outstanding and the transaction in progress are the same (R34). -/
def State.sameSequencer (s t : State) : Prop := t.remaining = s.remaining ∧ t.flight = s.flight

/-- Every byte of display memory reads the same (R50). -/
def State.sameMemory (s t : State) : Prop := ∀ a, t.ramByte a = s.ramByte a

/-- Nothing has passed on the display bus: trace, pins, controllers, read latch and free draws the same. -/
def State.sameBus (s t : State) : Prop :=
  t.trace = s.trace ∧ t.pins = s.pins ∧ t.disp = s.disp ∧ t.rdLatch = s.rdLatch ∧ t.draws = s.draws

/-- Every register of 10_state.md sections 3 to 6 but the named groups' own is the same: the frame of a
command that touches only the bus and its responses. -/
def State.sameRegisters (s t : State) : Prop :=
  s.sameCursor t ∧ s.sameWave t ∧ s.sameCapture t ∧ s.sameSnapshot t ∧ s.sameStatus t ∧ s.sameOutside t ∧
    s.sameSequencer t

/-- The pins stand at the idle levels of R35, `lcd_db_out` being whatever it is. -/
def State.pinsIdle (s : State) : Bool :=
  !s.pins.rs && !s.pins.rw && !s.pins.e && !s.cs1Asserted && !s.cs2Asserted && s.pins.dbOe

/-! ### Invariants -/

/-- A value of TS_W bits (R26-R31, R164). -/
def tickOk (c : Config) (v : Word) : Bool := decide (v.toNat < 2 ^ c.tsW)

/-- Every tick register and the timestamp counter hold TS_W bits (R26, R28, R29, R31, R160). -/
def State.ticksOk (s : State) : Bool :=
  tickOk s.cfg s.prevRise && tickOk s.cfg s.periodTicks && tickOk s.cfg s.highTicks &&
    tickOk s.cfg s.snapPeriod && tickOk s.cfg s.snapHigh && tickOk s.cfg s.tsCounter

/-- `WAVE_T < PIXEL_PERIOD` (R24), so `PIXEL_PERIOD` is not 0 (R25). -/
def State.waveOk (s : State) : Bool := decide (s.waveT < s.pixelPeriod)

/-- `ILL_CAUSE` is 0 while `ILL` is 0, and one of 1..4 once it is 1 (R32, R201). -/
def State.statusOk (s : State) : Bool :=
  if s.ill then decide (1 ≤ s.illCause ∧ s.illCause ≤ 4) else decide (s.illCause = 0)

/-- A step that keeps PIXEL_PERIOD legal (R25). -/
def MicroOp.ok : MicroOp → Bool
  | .setPeriod per => decide (per ≠ 0)
  | .bus _ | .setCursor _ _ | .sample _ | .consume | .derive | .readReg _ | .illegal _ => true

/-- The register invariant: configuration legal, tick registers in width, `WAVE_T < PIXEL_PERIOD`, the cause
legal, and no outstanding step that would break it. -/
def State.regInv (s : State) : Bool :=
  s.cfg.ok && s.ticksOk && s.waveOk && s.statusOk && s.remaining.all MicroOp.ok

/-- The display memory keeps its canonical form (R50). -/
def State.memInv (s : State) : Bool := s.disp.ram.wf

/-- The mode lines and the bus direction a transaction drives from step 1 to step 4 (R53, R55). -/
def Txn.linesOk (t : Txn) (p : Pins) : Bool :=
  match t with
  | .cmd _ _ => !p.rs && !p.rw && p.dbOe
  | .write _ _ => p.rs && !p.rw && p.dbOe
  | .writeOr _ _ => p.rs && !p.rw && p.dbOe
  | .read _ _ => p.rs && p.rw && !p.dbOe

/-- The pins of a transaction in progress (R53): its lines; no chip-select before step 2, its chip's alone
from then on; `lcd_e` high in the enable phase only. -/
def State.flightPinsOk (s : State) (f : Flight) : Bool :=
  f.txn.linesOk s.pins &&
    (s.cs1Asserted == (decide (f.stage ≠ .mode) && decide (f.txn.chip = some .one))) &&
    (s.cs2Asserted == (decide (f.stage ≠ .mode) && decide (f.txn.chip = some .two))) &&
    (s.pins.e == decide (f.stage = .enable))

/-- The bus invariant (R35, R53, R55): idle levels between transactions, the transaction's levels during
one. -/
def State.busInv (s : State) : Bool :=
  match s.flight with
  | none => s.pinsIdle
  | some f => s.flightPinsOk f

/-! ### Runs of commands -/

/-- A list of commands, each run to its end, one after the other (R67); none if one does not answer. -/
def execAll : List Instr → State → Option State
  | [], s => some s
  | i :: is, s =>
    match exec i s with
    | .next t => execAll is t
    | .fault _ => none
    | .refused _ => none

/-- A cursor position as a number, in the page-major order of R124: 0..1023. -/
def State.cursorIndex (s : State) : Nat := 128 * s.curPage.toNat + s.curCol.toNat

/-- The display address of a position in page-major order, positions counted modulo 1024. -/
def positionAddr (n : Nat) : Nat := logicalAddr (BitVec.ofNat 3 (n / 128)) (BitVec.ofNat 7 n)

/-! ### What the rules say in closed form -/

/-- The records one glyph leaves on the bus (R121, R122), from a position in page-major order: each byte is
addressed and written; after column 63 chip 2 is addressed anew at column 64. -/
def charRecords (c : Config) : Nat → List Byte → List BusRecord
  | _, [] => []
  | n, b :: bs =>
    let page := BitVec.ofNat 3 (n / 128)
    let col := BitVec.ofNat 7 n
    let k := some (if n % 128 < 64 then Chip.one else Chip.two)
    [.C k (pageByte c page), .C k (colByte c (localOf col)), .D k b] ++
      (if n % 128 = 63 then [.C (some .two) (pageByte c page), .C (some .two) (colByte c 0)] else []) ++
      charRecords c (n + 1) bs

/-- The number of edges of the trace (R237): x in 1..127 whose level differs from its left neighbour's. -/
def edgeCount (c : Config) (buf : BitVec 128) : Nat :=
  let y := fun x => if sampleAt buf x then c.yHigh else c.yLow
  ((List.range' 1 127).filter fun x => y x != y (x - 1)).length

/-- The transactions of the horizontal segments (R237): 3 a column, 6 where the two rows lie in two pages. -/
def segmentTransactions (c : Config) (buf : BitVec 128) : Nat :=
  ((List.range 128).map fun x =>
    let y := if sampleAt buf x then c.yHigh else c.yLow
    if y / 8 = (y + 1) / 8 then 3 else 6).sum

/-- The transactions of a render step (R237): E + S + n × V, over the buffer after the shift. -/
def renderTransactions (c : Config) (buf : BitVec 128) : Nat :=
  3 * 128 * (c.tracePageHi - c.tracePageLo + 1) + segmentTransactions c buf +
    edgeCount c buf * (2 * (max c.yHigh c.yLow - min c.yHigh c.yLow + 1) * (6 + c.dummyRead.toNat))

/-- The number of transactions a command issues (R237), from the state it starts in and the buffer it leaves. -/
def transactionCount (i : Instr) (s : State) (bufAfter : BitVec 128) : Nat :=
  match i with
  | .nop | .waveConfig _ | .consume | .derive | .readReg _ => 0
  | .sendCmd _ _ | .writeByte _ _ | .readByte _ => 1
  | .setAddress _ _ | .gotoxy _ _ => 2
  | .displayChar code =>
    if 32 ≤ code.toNat ∧ code.toNat ≤ 90 then
      (if 58 ≤ s.curCol.toNat ∧ s.curCol.toNat ≤ 63 then 20 else 18)
    else 0
  | .waveStep _ | .waveStepM => renderTransactions s.cfg bufAfter

/-- The samples a list of commands appends to the buffer (R142, R151), from the duty of the snapshot, the duty
of the measurement that waits to be consumed if one does, the pixel-period and the phase counter they start
with. CONSUME puts the waiting measurement into the snapshot (R166). -/
def sampleHistory : Nat → Option Nat → Nat → Nat → List Instr → List Bool
  | _, _, _, _, [] => []
  | duty, waiting, _, _, .waveConfig per :: is => sampleHistory duty waiting per.toNat 0 is
  | duty, waiting, p, t, .waveStep d :: is =>
    decide (t < (p * d.toNat + 50) / 100) :: sampleHistory duty waiting p ((t + 1) % p) is
  | duty, waiting, p, t, .waveStepM :: is =>
    decide (t < (p * duty + 50) / 100) :: sampleHistory duty waiting p ((t + 1) % p) is
  | duty, waiting, p, t, .consume :: is => sampleHistory (waiting.getD duty) none p t is
  | duty, waiting, p, t, .nop :: is | duty, waiting, p, t, .sendCmd _ _ :: is
  | duty, waiting, p, t, .writeByte _ _ :: is | duty, waiting, p, t, .readByte _ :: is
  | duty, waiting, p, t, .setAddress _ _ :: is | duty, waiting, p, t, .gotoxy _ _ :: is
  | duty, waiting, p, t, .displayChar _ :: is | duty, waiting, p, t, .derive :: is
  | duty, waiting, p, t, .readReg _ :: is => sampleHistory duty waiting p t is

/-- What of a state does not come from the display (R211): all of it but the controllers, the byte last read,
the bus record with the values read, the level of the free data bus and the counter of free draws. -/
def State.withoutDisplay (s : State) : State :=
  { s with
    cfg := { s.cfg with display := .oracle }
    disp := Display.reset
    rdLatch := 0
    trace := []
    pins := { s.pins with dbOut := 0 }
    draws := 0 }

/-- A slot in which only an edge event may arrive and the sequencer makes no progress. -/
def Slot.onlyEvent (sl : Slot) : Bool :=
  !sl.rst && sl.cmd.isNone && !sl.rspReady && decide (sl.pace = .wait)

/-- A slot in which time passes and an edge event may arrive while the sequencer makes no progress. -/
def Slot.stalls (sl : Slot) : Bool := !sl.rst && decide (sl.pace = .wait)

/-- A slot in which an edge event may arrive while the sequencer makes one indivisible step. -/
def Slot.oneStep (sl : Slot) : Bool :=
  !sl.rst && sl.cmd.isNone && !sl.rspReady && decide (sl.pace = .transaction)

end Sys2Proof.Machine
end

