-- ==== Sys2Proof/Certificates/Slice0/Obligations.lean ====
section
/-! DEFINITION. The statements about the model, each one a Prop that the provers prove or refute. OBLIGATIONS.json
lists them with the rules of spec/ they formalise. -/

open Sys2Proof Sys2Proof.Machine

/-! ### Encoding and decoding (spec/30_encoding.md) -/

/-- The words of 95_test_vectors.md V-ENC decode to the commands they stand for. -/
def Obligations.SampleWordsDecode : Prop :=
  decode 0x00000000 = .ok .nop ∧
  decode 0x1100003F = .ok (.sendCmd 1 0x3F) ∧
  decode 0x1000003F = .ok (.sendCmd 0 0x3F) ∧
  decode 0x220000AA = .ok (.writeByte 2 0xAA) ∧
  decode 0x33000000 = .ok (.readByte 3) ∧
  decode 0x40000364 = .ok (.setAddress 3 100) ∧
  decode 0x5000077F = .ok (.gotoxy 7 127) ∧
  decode 0x60000041 = .ok (.displayChar 65) ∧
  decode 0x7000007F = .ok (.waveConfig 127) ∧
  decode 0x80000064 = .ok (.waveStep 100) ∧
  decode 0x80000100 = .ok .waveStepM ∧
  decode 0x90000000 = .ok .consume ∧
  decode 0xA0000000 = .ok .derive ∧
  decode 0xB000000C = .ok (.readReg 12) ∧
  decode 0xFFFFFFFF = .error .reservedOpcode ∧
  decode 0x80000132 = .error .reservedBit ∧
  decode 0x70000100 = .error .reservedBit ∧
  decode 0x80000065 = .error .operandDomain ∧
  decode 0xB000000D = .error .registerIndex

/-- Every well-formed command, with every operand its fields hold, is read back from its word (R82-R88, R91). -/
def Obligations.DecodeOfEncodeIsTheCommand : Prop :=
  ∀ i : Instr, i.wf = true → decode (encode i) = .ok i

/-- The decoder accepts exactly the words of well-formed commands, each as the command it encodes: no two words decode
to one command, and no other word is accepted. -/
def Obligations.DecodeAcceptsExactlyTheEncodings : Prop :=
  ∀ (w : Word) (i : Instr), decode w = .ok i ↔ (i.wf = true ∧ encode i = w)

/-- R89: a word selects a row exactly when `(W & mask) = match` and the row's value constraint holds; no word selects
two rows. -/
def Obligations.RowsSelectedByMatchAndMask : Prop :=
  (∀ (w : Word) (j : Instr),
    (∃ i, decode w = .ok i ∧ i.tableRow = j.tableRow) ↔
      (w &&& j.tableRow.2 = j.tableRow.1 ∧ j.rowConstraint w = true)) ∧
  (∀ (w : Word) (i j : Instr), w &&& i.tableRow.2 = i.tableRow.1 → w &&& j.tableRow.2 = j.tableRow.1 →
    i.tableRow = j.tableRow)

/-- The causes of R201's table, by what is wrong with the word: a reserved opcode; else a word that no row's mask and
match admit; a WAVE_CONFIG of period 0 or a WAVE_STEP of duty over 100; a READ_REG of an index over 0x0C. -/
def Obligations.IllegalWordsByCause : Prop :=
  ∀ w : Word,
    (decode w = .error .reservedOpcode ↔ 0xC ≤ opcode w) ∧
    (decode w = .error .reservedBit ↔
      (opcode w < 0xC ∧ ∀ i : Instr, w &&& i.tableRow.2 ≠ i.tableRow.1)) ∧
    (decode w = .error .operandDomain ↔
      (w = encode (.waveConfig 0) ∨ ∃ d : BitVec 7, 100 < d ∧ w = encode (.waveStep d))) ∧
    (decode w = .error .registerIndex ↔ ∃ x : BitVec 8, 0x0C < x ∧ w = encode (.readReg x))

/-! ### The step -/

/-- An idle sequencer that is offered the word of a command, and given the time, runs exactly that command, on the
state the slot opens with (lcd_rst_n 1, counter ticked, the slot's event taken; for READ_REG the order is the model's
choice, notes/assumptions/30.md). The same for a word placed by withFetchWord. The schedule of slots is the model's
form (notes/assumptions/1.md, 2.md). -/
def Obligations.StepRunsTheDecodedCommand : Prop :=
  (∀ (s : State) (w : Word) (i : Instr), s.cfg.ok = true → s.idle = true → s.nextSlot.rst = false →
    s.nextSlot.cmd = some w → s.nextSlot.pace = .command → decode w = .ok i →
    step s = exec i (openSlot s.nextSlot s.popSlot)) ∧
  (∀ (s : State) (nbits w : Nat) (i : Instr), s.cfg.ok = true → decode (tableWord nbits w) = .ok i →
    step (s.withFetchWord nbits w) =
      exec i (openSlot { Slot.quiet with cmd := some (tableWord nbits w) }
        (s.withFetchWord nbits w).popSlot))

/-- R201: an illegal word that is accepted sets ILL, records its cause code if it is the first, and changes nothing
else; the sequencer is ready for the next word. -/
def Obligations.IllegalWordChangesOnlyTheMarks : Prop :=
  ∀ (s : State) (w : Word) (c : Cause), s.cfg.ok = true → s.idle = true → s.nextSlot.rst = false →
    s.nextSlot.cmd = some w → decode w = .error c →
    let u := openSlot s.nextSlot s.popSlot
    let code : BitVec 4 := match c with
      | .reservedOpcode => 1 | .reservedBit => 2 | .operandDomain => 3 | .registerIndex => 4
    ∃ t, step s = .next t ∧ t = { u with ill := true, illCause := if u.ill then u.illCause else code } ∧
      t.cmdReady = true

/-- R200: whatever the state, the command, the event or the display, the machine goes on. -/
def Obligations.NothingStopsTheMachine : Prop :=
  ∀ s : State, s.cfg.ok = true → ∃ t, step s = .next t

/-- R8: a configuration that breaks a constraint is refused; in a legal one every row the renderer draws lies inside
the region it erases and in 0..63; the default values are legal. That one outside the ranges of R5 is refused too is
the model's reading (notes/assumptions/16.md). -/
def Obligations.ConfigurationConstraints : Prop :=
  (∀ s : State, s.cfg.ok = false → step s = .refused .illegalConfiguration) ∧
  (∀ c : Config, c.ok = true →
    c.tracePageLo ≤ c.tracePageHi ∧ c.tracePageHi ≤ 7 ∧ 8 * c.tracePageLo ≤ min c.yHigh c.yLow ∧
      max c.yHigh c.yLow + 1 ≤ 8 * c.tracePageHi + 7 ∧
      ∀ r, min c.yHigh c.yLow ≤ r → r ≤ max c.yHigh c.yLow + 1 →
        c.tracePageLo ≤ r / 8 ∧ r / 8 ≤ c.tracePageHi ∧ r ≤ 63) ∧
  Config.default.ok = true ∧ Config.default.yHigh = 40 ∧ Config.default.yLow = 60 ∧
    Config.default.tracePageLo = 5 ∧ Config.default.tracePageHi = 7

/-! ### Invariants -/

/-- The three invariants hold right after reset, under every legal configuration. The controllers' pointers at reset
are the model's choice (notes/assumptions/6.md). -/
def Obligations.ResetMeetsTheInvariants : Prop :=
  ∀ c : Config, c.ok = true →
    (State.resetWith c).regInv = true ∧ (State.resetWith c).memInv = true ∧ (State.resetWith c).busInv = true

/-- Every step keeps: the configuration legal and unchanged, every tick register in TS_W bits, `WAVE_T <
PIXEL_PERIOD`, a legal cause code. -/
def Obligations.StepKeepsRegisterInvariant : Prop :=
  ∀ s t : State, s.regInv = true → step s = .next t → t.regInv = true ∧ t.cfg = s.cfg

/-- Every step keeps the display memory in its canonical form, inside the 1024 display bytes. -/
def Obligations.StepKeepsMemoryCanonical : Prop :=
  ∀ s t : State, s.memInv = true → step s = .next t → t.memInv = true

/-- Every step keeps the pins: idle levels between transactions, the transaction's levels during one; so the two
chip-selects are never asserted together, and the data bus is an input during a read only. -/
def Obligations.StepKeepsBusPins : Prop :=
  ∀ s t : State, s.busInv = true → step s = .next t →
    t.busInv = true ∧ ¬(t.cs1Asserted = true ∧ t.cs2Asserted = true) ∧
      (t.pins.dbOe = false → ∃ k u st n, t.flight = some ⟨.read k u, st, n⟩)

/-! ### Reset (spec/70_reset_and_hazards.md) -/

/-- R220: in a cycle with `rst` = 1 every register takes its reset value, from any state, busy or idle; in the first
cycle after `rst` falls the block is ready, offers nothing, and arms for a rising edge. That the bus trace and the
record of accepted responses stay is the model's choice (notes/assumptions/11.md, 19.md). -/
def Obligations.BlockResetSetsEveryRegister : Prop :=
  ∀ s : State, s.cfg.ok = true → s.nextSlot.rst = true → ∃ t, step s = .next t ∧
    t.curPage = 0 ∧ t.curCol = 0 ∧ (∀ x, x < 128 → sampleAt t.waveBuf x = false) ∧ t.waveT = 0 ∧
    t.pixelPeriod = s.cfg.pixelPeriodReset ∧ t.prevRise = 0 ∧ t.phase = .awaitingRising ∧
    t.periodTicks = 0 ∧ t.highTicks = 0 ∧ t.measReady = false ∧ t.snapPeriod = 0 ∧ t.snapHigh = 0 ∧
    t.ill = false ∧ t.illCause = 0 ∧ t.remaining = [] ∧ t.flight = none ∧ t.rsp = [] ∧ t.pinsIdle = true ∧
    t.trace = s.trace ∧ t.rspLog = s.rspLog ∧ t.cfg = s.cfg ∧
    (∀ sl : Slot, sl.rst = false → sl.edge = none →
      let u := openSlot sl t
      u.cmdReady = true ∧ u.rspValid = false ∧ u.measReadyPort = false ∧ u.capArmRising = true)

/-- R222: reset wins over every event and every command of its cycle, and no word is accepted in it. -/
def Obligations.ResetWinsOverWordAndEvent : Prop :=
  ∀ (s : State) (sl : Slot) (rest : List Slot), s.cfg.ok = true → sl.rst = true →
    ∃ t, step { s with inputs := sl :: rest } = .next t ∧ t.cmdReady = false ∧
      ∀ (cmd : Option Word) (edge : Option Bool) (rspReady : Bool) (pace : Pace),
        step { s with inputs := { sl with cmd := cmd, edge := edge, rspReady := rspReady, pace := pace } :: rest } =
          .next t

/-- `lcd_rst_n` is 0 in every cycle in which `rst` = 1, and 1 at all other times (R224). -/
def Obligations.DisplayResetLineFollowsReset : Prop :=
  ∀ s t : State, step s = .next t → t.pins.rstN = !s.nextSlot.rst

/-! ### Edge capture (spec/43_edge_capture.md) -/

/-- R161: a rising event awaited, in any state of the sequencer. T is the counter's value at the event. -/
def Obligations.RisingEventAwaited : Prop :=
  ∀ s : State, s.cfg.ok = true → s.nextSlot.onlyEvent = true → s.nextSlot.edge = some true →
    s.phase = .awaitingRising →
    let T := advanceCounter s.cfg s.nextSlot.ticks s.tsCounter
    ∃ t, step s = .next t ∧
      t = { s with
        inputs := s.inputs.tail, tsCounter := T, pins := { s.pins with rstN := true }
        periodTicks := tickSub s.cfg T s.prevRise, prevRise := T, phase := .awaitingFalling } ∧
      t.capArmRising = false

/-- R162: a falling event awaited, in any state of the sequencer, whether or not the last measurement was consumed. -/
def Obligations.FallingEventAwaited : Prop :=
  ∀ s : State, s.cfg.ok = true → s.nextSlot.onlyEvent = true → s.nextSlot.edge = some false →
    s.phase = .awaitingFalling →
    let T := advanceCounter s.cfg s.nextSlot.ticks s.tsCounter
    ∃ t, step s = .next t ∧
      t = { s with
        inputs := s.inputs.tail, tsCounter := T, pins := { s.pins with rstN := true }
        highTicks := tickSub s.cfg T s.prevRise, phase := .awaitingRising, measReady := true } ∧
      t.capArmRising = true

/-- R163: an event whose polarity does not match PHASE changes no state of the block. -/
def Obligations.MismatchedEventIgnored : Prop :=
  ∀ (s : State) (rising : Bool), s.cfg.ok = true → s.nextSlot.onlyEvent = true → s.nextSlot.edge = some rising →
    rising = s.phase.bit →
    step s = .next { s with
      inputs := s.inputs.tail, pins := { s.pins with rstN := true }
      tsCounter := advanceCounter s.cfg s.nextSlot.ticks s.tsCounter }

/-- R164: `TickSub(a, b) = (a - b) mod 2^TS_W`, and it is the true interval between two counter values whenever that
is less than 2^TS_W ticks. -/
def Obligations.TickDifferenceIsModular : Prop :=
  ∀ c : Config, c.ok = true →
    (∀ a b : Word, ((tickSub c a b).toNat : Int) = ((a.toNat : Int) - (b.toNat : Int)) % (2 ^ c.tsW : Int)) ∧
    (∀ (a : Word) (n : Nat), a.toNat < 2 ^ c.tsW → n < 2 ^ c.tsW →
      (tickSub c (advanceCounter c n a) a).toNat = n)

/-- R172: rising at T1, falling at T2 = T1 + a, rising at T3 = T2 + b. After the falling event the measurement is
ready, the high time is T2 - T1 and the period is still the one computed at T1; after the third event the period is T3
- T1. -/
def Obligations.MeasurementSequence : Prop :=
  ∀ (s : State) (n a b : Nat) (rest : List Slot), s.cfg.ok = true → s.ticksOk = true →
    s.phase = .awaitingRising →
    a + b < 2 ^ s.cfg.tsW →
    let ev := fun (rising : Bool) (ticks : Nat) =>
      ({ Slot.quiet with edge := some rising, ticks := ticks, pace := .wait, rspReady := false } : Slot)
    let s0 := { s with inputs := ev true n :: ev false a :: ev true b :: rest }
    ∃ t1 t2 t3, step s0 = .next t1 ∧ step t1 = .next t2 ∧ step t2 = .next t3 ∧
      t2.measReady = true ∧ t2.highTicks.toNat = a ∧ t2.periodTicks = t1.periodTicks ∧
      t1.periodTicks = tickSub s.cfg (advanceCounter s.cfg n s.tsCounter) s.prevRise ∧
      t3.periodTicks.toNat = a + b

/-- R171: a command other than CONSUME and READ_REG, begun in one slot and carried on one indivisible step a slot,
with any edge events and any time between its steps, leaves what the command leaves when it runs at once, with the
same events taken. The schedule of slots is the model's form (notes/assumptions/1.md, 2.md). -/
def Obligations.InterleavedEventsDoNotChangeACommand : Prop :=
  ∀ (s u : State) (w : Word) (i : Instr) (first : Slot) (rest : List Slot),
    s.cfg.ok = true → s.idle = true → s.inputs = first :: rest → first.rst = false → first.cmd = some w →
    first.pace = .transaction → decode w = .ok i → i ≠ .consume → (∀ x, i ≠ .readReg x) →
    rest.all Slot.oneStep = true →
    rest.length = (programOf i (openSlot first s.popSlot)).length →
    exec i (openSlot first s.popSlot) = .next u →
    Host.Core.run Sys2Proof.core (rest.length + 1) s =
      .next { rest.foldl (fun t sl => openSlot sl t) u with inputs := [] }

/-! ### Transactions, handshakes (spec/20_memory.md, spec/10_state.md) -/

/-- A transaction carried out cycle by cycle (R53): it ends after 2 + T_SETUP + T_PW + T_HOLD cycles and not before
(R234), with the effect of the indivisible step, and `lcd_e` is high for T_PW cycles, T_SETUP after the select. One
cycle each for steps 1 and 2, and no more cycles than the minimums, is the model's choice (notes/assumptions/12.md):
R238 bounds no duration from above. -/
def Obligations.TransactionTakesItsCycles : Prop :=
  ∀ (s : State) (x : Txn) (ops : List MicroOp), s.cfg.ok = true → s.flight = none → s.busInv = true →
    let c := s.cfg
    let after := fun m => (tickCycle^[m]) { s with remaining := .bus x :: ops }
    after (2 + c.tSetup + c.tPw + c.tHold) = transact x { s with remaining := ops } ∧
    ∀ m, 1 ≤ m → m < 2 + c.tSetup + c.tPw + c.tHold →
      (after m).flight.isSome = true ∧ (after m).remaining = ops ∧
        (after m).pins.e = decide (2 + c.tSetup ≤ m ∧ m < 2 + c.tSetup + c.tPw)

/-- While the sequencer is BUSY a word offered is not accepted: the step is the one without it (R34). That it is not
kept is the model's choice (notes/assumptions/27.md). -/
def Obligations.BusySequencerIgnoresTheWord : Prop :=
  ∀ (s : State) (sl : Slot) (rest : List Slot) (w : Word), s.cfg.ok = true → s.idle = false →
    ∃ t, step { s with inputs := { sl with cmd := some w } :: rest } = .next t ∧
      step { s with inputs := { sl with cmd := none } :: rest } = .next t

/-- Response words leave in order, one a slot, once the last transaction has completed; the sequencer is IDLE again
only after the last one is accepted (R34, R67). -/
def Obligations.ResponsesDeliveredInOrder : Prop :=
  ∀ (s : State) (r : Word) (rs : List Word), s.cfg.ok = true → s.remaining = [] → s.flight = none →
    s.rsp = r :: rs → s.nextSlot.rst = false →
    s.rspWord = some r ∧ s.cmdReady = false ∧
    ∃ t, step s = .next t ∧
      (s.nextSlot.rspReady = true → t.rsp = rs ∧ t.rspLog = r :: s.rspLog ∧ (t.idle = true ↔ rs = [])) ∧
      (s.nextSlot.rspReady = false → t.rsp = s.rsp ∧ t.rspLog = s.rspLog ∧ t.idle = false)

/-! ### NOP and the DisplayController commands (spec/44_register_access.md, spec/40_display_controller.md) -/

/-- R180: NOP leaves all state unchanged. -/
def Obligations.NopLeavesAllState : Prop := ∀ s : State, exec .nop s = .next s

/-- R101: SEND_CMD is one command write; a page-select or column-select byte sets that controller's pointer, any other
byte has no effect; no display byte, no register and no other controller changes. -/
def Obligations.SendCmdIsOneCommandWrite : Prop :=
  ∀ (ch : BitVec 2) (data : Byte) (s : State), ∃ t, exec (.sendCmd ch data) s = .next t ∧
    s.sameRegisters t ∧ s.sameMemory t ∧ t.rsp = s.rsp ∧ t.pinsIdle = true ∧
    t.trace = .C (decodeChip ch) data :: s.trace ∧
    (∀ k, decodeChip ch = some k → s.cfg.display = .conforming →
      t.disp.ctl k =
        (if data &&& 0xF8 = s.cfg.cmdPageBase then ⟨data.extractLsb' 0 3, (s.disp.ctl k).col⟩
         else if data &&& 0xC0 = s.cfg.cmdColBase then ⟨(s.disp.ctl k).page, data.extractLsb' 0 6⟩
         else s.disp.ctl k) ∧
      ∀ k', k' ≠ k → t.disp.ctl k' = s.disp.ctl k') ∧
    (decodeChip ch = none → t.disp = s.disp)

/-- R102: WRITE_BYTE is one data write, at the selected controller's pointer, of all 8 bits; the column pointer then
advances modulo 64 if DISP_AUTOINC; every other display byte, and every register, is unchanged; with NONE the write is
lost. -/
def Obligations.WriteByteStoresAtThePointer : Prop :=
  ∀ (ch : BitVec 2) (data : Byte) (s : State), ∃ t, exec (.writeByte ch data) s = .next t ∧
    s.sameRegisters t ∧ t.rsp = s.rsp ∧ t.pinsIdle = true ∧
    t.trace = .D (decodeChip ch) data :: s.trace ∧
    (∀ k, decodeChip ch = some k → s.cfg.display = .conforming →
      t.ramByte (s.disp.pointer k) = data ∧
      (∀ a, a ≠ s.disp.pointer k → t.ramByte a = s.ramByte a) ∧
      t.disp.ctl k = ⟨(s.disp.ctl k).page,
        if s.cfg.dispAutoinc then (s.disp.ctl k).col + 1 else (s.disp.ctl k).col⟩ ∧
      ∀ k', k' ≠ k → t.disp.ctl k' = s.disp.ctl k') ∧
    (decodeChip ch = none → t.disp = s.disp)

/-- R103: READ_BYTE is exactly one data read, whatever DUMMY_READ is, and one response word, the byte zero-extended;
with a chip selected it is the byte at the controller's pointer. No display byte and no register changes. -/
def Obligations.ReadByteAnswersTheByteAtThePointer : Prop :=
  ∀ (ch : BitVec 2) (s : State), ∃ t b, exec (.readByte ch) s = .next t ∧
    s.sameRegisters t ∧ s.sameMemory t ∧ t.pinsIdle = true ∧
    t.trace = .R (decodeChip ch) b :: s.trace ∧ t.rsp = s.rsp ++ [b.zeroExtend 32] ∧
    (∀ k, decodeChip ch = some k → s.cfg.display = .conforming →
      b = s.ramByte (s.disp.pointer k) ∧
      t.disp.ctl k = ⟨(s.disp.ctl k).page,
        if s.cfg.dispAutoinc then (s.disp.ctl k).col + 1 else (s.disp.ctl k).col⟩ ∧
      ∀ k', k' ≠ k → t.disp.ctl k' = s.disp.ctl k') ∧
    (decodeChip ch = none → t.disp = s.disp)

/-- R90, R54: CH 1 and 2 select chip 1 and chip 2; CH 0 and 3 are no chip, and then the three bus commands still make
their transaction, of which no controller sees anything. -/
def Obligations.NoneSelectorReachesNoController : Prop :=
  decodeChip 1 = some .one ∧ decodeChip 2 = some .two ∧
  ∀ ch : BitVec 2, ch = 0 ∨ ch = 3 → ∀ (data : Byte) (s : State),
    (∃ t, exec (.sendCmd ch data) s = .next t ∧ t.disp = s.disp ∧ t.trace = .C none data :: s.trace) ∧
    (∃ t, exec (.writeByte ch data) s = .next t ∧ t.disp = s.disp ∧ t.trace = .D none data :: s.trace) ∧
    (∃ t b, exec (.readByte ch) s = .next t ∧ t.disp = s.disp ∧ t.trace = .R none b :: s.trace ∧
      t.rsp = s.rsp ++ [b.zeroExtend 32])

/-- R104: SET_ADDRESS issues the page-select then the column-select to the resolved chip; under R61 that chip's
pointers then name the address, the other chip's are not touched; no display byte and no register changes, the cursor
among them. The bases must be distinct (notes/assumptions/15.md). -/
def Obligations.SetAddressPointsTheResolvedChip : Prop :=
  ∀ (pg : BitVec 3) (col : BitVec 7) (s : State), ∃ t, exec (.setAddress pg col) s = .next t ∧
    s.sameRegisters t ∧ s.sameMemory t ∧ t.rsp = s.rsp ∧ t.pinsIdle = true ∧
    (let k := if col.toNat < 64 then Chip.one else Chip.two
     t.trace = .C (some k) (s.cfg.cmdColBase ||| (col.extractLsb' 0 6).zeroExtend 8) ::
        .C (some k) (s.cfg.cmdPageBase ||| pg.zeroExtend 8) :: s.trace ∧
     (s.cfg.ok = true → s.cfg.basesDistinct = true → s.cfg.display = .conforming →
       t.disp.ctl k = ⟨pg, col.extractLsb' 0 6⟩ ∧ ∀ k', k' ≠ k → t.disp.ctl k' = s.disp.ctl k'))

/-- R120: GOTOXY sets the cursor and addresses the display there; it changes nothing else of the block and no display
byte. The bases must be distinct (notes/assumptions/15.md). -/
def Obligations.GotoxySetsTheCursor : Prop :=
  ∀ (pg : BitVec 3) (col : BitVec 7) (s : State), ∃ t, exec (.gotoxy pg col) s = .next t ∧
    t.curPage = pg ∧ t.curCol = col ∧
    s.sameWave t ∧ s.sameCapture t ∧ s.sameSnapshot t ∧ s.sameStatus t ∧ s.sameOutside t ∧ s.sameSequencer t ∧
    s.sameMemory t ∧ t.rsp = s.rsp ∧ t.pinsIdle = true ∧
    (let k := if col.toNat < 64 then Chip.one else Chip.two
     t.trace = .C (some k) (s.cfg.cmdColBase ||| (col.extractLsb' 0 6).zeroExtend 8) ::
        .C (some k) (s.cfg.cmdPageBase ||| pg.zeroExtend 8) :: s.trace ∧
     (s.cfg.ok = true → s.cfg.basesDistinct = true → s.cfg.display = .conforming →
       t.disp.ctl k = ⟨pg, col.extractLsb' 0 6⟩ ∧ ∀ k', k' ≠ k → t.disp.ctl k' = s.disp.ctl k'))

/-! ### Addresses and addressed accesses (spec/20_memory.md) -/

/-- R51: chipOf and localOf are the dual-chip translation, with its boundary cases, and the translation is a bijection
onto the 1024 display bytes. -/
def Obligations.AddressTranslationIsABijection : Prop :=
  (∀ c : BitVec 7, (c.toNat < 64 → chipOf c = .one ∧ (localOf c).toNat = c.toNat) ∧
    (64 ≤ c.toNat → chipOf c = .two ∧ (localOf c).toNat = c.toNat - 64)) ∧
  (∀ (p p' : BitVec 3) (c c' : BitVec 7), logicalAddr p c = logicalAddr p' c' → p = p' ∧ c = c') ∧
  (∀ (k : Chip) (p : BitVec 3) (l : BitVec 6), ∃ c : BitVec 7, logicalAddr p c = dispAddr k p l) ∧
  (∀ a, a < 1024 → ∃ (p : BitVec 3) (c : BitVec 7), logicalAddr p c = a) ∧
  chipOf 63 = .one ∧ localOf 63 = 63 ∧ chipOf 64 = .two ∧ localOf 64 = 0 ∧ chipOf 127 = .two ∧ localOf 127 = 63

/-- R62: under R61, AddrWrite sets the addressed byte and no other; AddrRead returns it when DUMMY_READ matches the
controller, so a read after a write returns the byte written; all whatever the pointers held before. The bases must be
distinct (notes/assumptions/15.md). -/
def Obligations.AddressedAccess : Prop :=
  ∀ (s : State) (p : BitVec 3) (c : BitVec 7) (b : Byte), s.cfg.ok = true → s.cfg.basesDistinct = true →
    s.cfg.display = .conforming →
    (run (addrWriteOps s.cfg p c b) s).ramByte (logicalAddr p c) = b ∧
    (∀ a, a ≠ logicalAddr p c → (run (addrWriteOps s.cfg p c b) s).ramByte a = s.ramByte a) ∧
    (s.cfg.dummyRead = false → (run (addrReadOps s.cfg p c) s).rdLatch = s.ramByte (logicalAddr p c)) ∧
    s.sameMemory (run (addrReadOps s.cfg p c) s) ∧
    (s.cfg.dummyRead = false →
      (run (addrReadOps s.cfg p c) (run (addrWriteOps s.cfg p c b) s)).rdLatch = b)

/-- R60: RmwOr sets pixel row r at column c and keeps every other bit of its byte and every other byte; it is six
transactions, or seven with DUMMY_READ. The bases must be distinct (notes/assumptions/15.md). -/
def Obligations.RmwOrSetsOnePixel : Prop :=
  ∀ (s : State) (r : Nat) (c : BitVec 7), r < 64 →
    (run (rmwOrOps s.cfg r c) s).trace.length = s.trace.length + (if s.cfg.dummyRead then 7 else 6) ∧
    (s.cfg.ok = true → s.cfg.basesDistinct = true → s.cfg.display = .conforming → s.cfg.dummyRead = false →
      let a := logicalAddr (BitVec.ofNat 3 (r / 8)) c
      (∀ j, j < 8 → ((run (rmwOrOps s.cfg r c) s).ramByte a).getLsbD j =
        (decide (j = r % 8) || (s.ramByte a).getLsbD j)) ∧
      ∀ a', a' ≠ a → (run (rmwOrOps s.cfg r c) s).ramByte a' = s.ramByte a')

/-- Write-then-read at one address through the host's own commands returns the byte written (R62, R231). The bases
must be distinct (notes/assumptions/15.md). -/
def Obligations.WriteThenReadReturnsTheByte : Prop :=
  ∀ (s : State) (pg : BitVec 3) (col : BitVec 7) (ch : BitVec 2) (b : Byte), s.cfg.ok = true →
    s.cfg.basesDistinct = true → s.cfg.display = .conforming → decodeChip ch = some (chipOf col) →
    ∃ t, execAll [.setAddress pg col, .writeByte ch b, .setAddress pg col, .readByte ch] s = some t ∧
      t.rsp = s.rsp ++ [b.zeroExtend 32] ∧ t.ramByte (logicalAddr pg col) = b ∧
      ∀ a, a ≠ logicalAddr pg col → t.ramByte a = s.ramByte a

/-! ### Cursor and glyphs (spec/41_cursor_text.md) -/

/-- R122, R125: DISPLAY_CHAR of a supported code writes its five glyph bytes, the entry code - 32 of the table, and a
zero byte at the six positions from the cursor on, in page-major order with the wraps of R121, advances the cursor by
six, and changes nothing else; its transactions are those of six addressed writes, with chip 2 addressed anew when an
advance reaches column 64. The bases must be distinct (notes/assumptions/15.md). -/
def Obligations.DisplayCharWritesSixColumns : Prop :=
  ∀ (code : Byte) (s : State), 32 ≤ code.toNat → code.toNat ≤ 90 →
    ∃ (v : Vector Byte 5) (t : State), s.cfg.glyph[code.toNat - 32]? = some v ∧
      exec (.displayChar code) s = .next t ∧
      t.cursorIndex = (s.cursorIndex + 6) % 1024 ∧
      s.sameWave t ∧ s.sameCapture t ∧ s.sameSnapshot t ∧ s.sameStatus t ∧ s.sameOutside t ∧ s.sameSequencer t ∧
      t.rsp = s.rsp ∧ t.pinsIdle = true ∧
      t.busTrace = s.busTrace ++ charRecords s.cfg s.cursorIndex (v.toList ++ [0]) ∧
      (s.cfg.ok = true → s.cfg.basesDistinct = true → s.cfg.display = .conforming →
        (∀ i, i < 6 → t.ramByte (positionAddr (s.cursorIndex + i)) = (v.toList ++ [0]).getD i 0) ∧
        ∀ a, (∀ i, i < 6 → a ≠ positionAddr (s.cursorIndex + i)) → t.ramByte a = s.ramByte a)

/-- R123: DISPLAY_CHAR of a code outside 32..90 does nothing: no transaction, cursor unchanged, no status bit. -/
def Obligations.UnsupportedCodesDoNothing : Prop :=
  ∀ (code : Byte) (s : State), code.toNat < 32 ∨ 90 < code.toNat → exec (.displayChar code) s = .next s

/-- R124: a string is its characters one after the other; each supported one advances the cursor by six positions,
modulo the 1024 of the screen, unsupported ones do not. -/
def Obligations.StringAdvancesSixPerCharacter : Prop :=
  ∀ (text : List Byte) (s : State), ∃ t, execAll (displayString text) s = some t ∧
    t.cursorIndex = (s.cursorIndex +
      6 * ((text.takeWhile (· ≠ 0)).filter fun b => decide (32 ≤ b.toNat ∧ b.toNat ≤ 90)).length) % 1024

/-! ### The waveform renderer (spec/42_waveform.md) -/

/-- R141: WAVE_CONFIG writes PIXEL_PERIOD, zeroes WAVE_T, makes no transaction and changes nothing else; a period of 0
is IllegalCommand cause 3, with no other effect: of the term, which no word decodes to, that is the model's choice
(notes/assumptions/17.md). -/
def Obligations.WaveConfigSetsThePeriod : Prop :=
  ∀ (per : BitVec 7) (s : State),
    (per ≠ 0 → exec (.waveConfig per) s = .next { s with pixelPeriod := per, waveT := 0 }) ∧
    (per = 0 → exec (.waveConfig per) s = .next { s with ill := true, illCause := if s.ill then s.illCause else 3 })

/-- R142, R143: a render step at an immediate duty computes the next sample with halves rounded up, advances WAVE_T
modulo the period, shifts the buffer by one and appends the sample; it changes no other register, and answers nothing.
-/
def Obligations.WaveStepSamplesAndShifts : Prop :=
  ∀ (duty : BitVec 7) (s : State), duty ≤ 100 → s.waveT < s.pixelPeriod →
    ∃ t, exec (.waveStep duty) s = .next t ∧
      (∀ i, i < 127 → sampleAt t.waveBuf i = sampleAt s.waveBuf (i + 1)) ∧
      sampleAt t.waveBuf 127 =
        decide (s.waveT.toNat < (s.pixelPeriod.toNat * duty.toNat + 50) / 100) ∧
      t.waveT.toNat = (s.waveT.toNat + 1) % s.pixelPeriod.toNat ∧ t.pixelPeriod = s.pixelPeriod ∧
      s.sameCursor t ∧ s.sameCapture t ∧ s.sameSnapshot t ∧ s.sameStatus t ∧ s.sameOutside t ∧
      s.sameSequencer t ∧ t.rsp = s.rsp ∧ t.pinsIdle = true

/-- R149: WAVE_STEP_M completes, and is the WAVE_STEP of the duty the snapshot gives, `min(H * 100 div P, 100)` and 0
for a zero period; PERIOD_TICKS and HIGH_TICKS play no part. -/
def Obligations.WaveStepMRendersAtTheSnapshotDuty : Prop :=
  ∀ s : State,
    let d := if s.snapPeriod.toNat = 0 then 0 else min (s.snapHigh.toNat * 100 / s.snapPeriod.toNat) 100
    ∃ t, exec .waveStepM s = .next t ∧ exec (.waveStep (BitVec.ofNat 7 d)) s = .next t

/-- The operand values R86-R88 shut out are IllegalCommand when a command is run with them, and then have no other
effect (R141, R148, R181). Model's choice for a term no word decodes to (notes/assumptions/17.md). -/
def Obligations.OperandsOutOfDomainAreIllegal : Prop :=
  ∀ s : State,
    (∀ duty : BitVec 7, 100 < duty → exec (.waveStep duty) s = .next (illegalCommand .operandDomain s)) ∧
    (∀ x : BitVec 8, 0x0C < x → exec (.readReg x) s = .next (illegalCommand .registerIndex s)) ∧
    exec (.waveConfig 0) s = .next (illegalCommand .operandDomain s)

/-- R152: after a render step, whatever the display held before, every pixel of the trace region is lit exactly if it
lies in its column's segment or in a connector drawn at the column. The bases must be distinct
(notes/assumptions/15.md). -/
def Obligations.RenderedImageClosedForm : Prop :=
  ∀ (i : Instr) (s : State), (i = .waveStepM ∨ ∃ d, d ≤ 100 ∧ i = .waveStep d) → s.cfg.ok = true →
    s.cfg.basesDistinct = true → s.cfg.display = .conforming → s.cfg.dummyRead = false →
    ∃ t, exec i s = .next t ∧
      ∀ r x, 8 * s.cfg.tracePageLo ≤ r → r < 8 * (s.cfg.tracePageHi + 1) → x < 128 →
        let y := fun x => if sampleAt t.waveBuf x then s.cfg.yHigh else s.cfg.yLow
        let edge := fun x => 1 ≤ x ∧ y x ≠ y (x - 1)
        (t.pixel r x = true ↔
          (r = y x ∨ r = y x + 1 ∨
            (min s.cfg.yHigh s.cfg.yLow ≤ r ∧ r ≤ max s.cfg.yHigh s.cfg.yLow ∧
              (edge x ∨ (x ≤ 126 ∧ edge (x + 1))))))

/-- A render step touches no display byte outside the trace region, whatever DUMMY_READ is (R152, R236). The bases
must be distinct (notes/assumptions/15.md). -/
def Obligations.RenderTouchesOnlyTheTraceRegion : Prop :=
  ∀ (i : Instr) (s : State), (i = .waveStepM ∨ ∃ d, d ≤ 100 ∧ i = .waveStep d) → s.cfg.ok = true →
    s.cfg.basesDistinct = true → s.cfg.display = .conforming →
    ∃ t, exec i s = .next t ∧
      ∀ a, (∀ (p : BitVec 3) (c : BitVec 7), s.cfg.tracePageLo ≤ p.toNat → p.toNat ≤ s.cfg.tracePageHi →
        a ≠ logicalAddr p c) → t.ramByte a = s.ramByte a

/-- R237: the number of transactions of every command, in every configuration; an illegal command makes none. -/
def Obligations.TransactionCounts : Prop :=
  (∀ (i : Instr) (s : State), i.wf = true → s.cfg.ok = true →
    ∃ t, exec i s = .next t ∧ t.trace.length = s.trace.length + transactionCount i s t.waveBuf) ∧
  (∀ (c : Cause) (s : State), (illegalCommand c s).trace = s.trace)

/-- R151: after any list of commands from reset, the buffer holds the last 128 samples in arrival order, and 0 where
no sample has come yet; from any other state, with or without a measurement that waits to be consumed, the old entries
shifted on. The display plays no part. -/
def Obligations.BufferHoldsTheLastSamples : Prop :=
  (∀ (c : Config) (is : List Instr), c.ok = true → (∀ i ∈ is, i.wf = true) →
    ∃ t, execAll is (State.resetWith c) = some t ∧
      ∀ j, j < 128 → sampleAt t.waveBuf (127 - j) =
        (sampleHistory 0 none c.pixelPeriodReset.toNat 0 is).reverse.getD j false) ∧
  (∀ (s : State) (is : List Instr), (∀ i ∈ is, i.wf = true) → s.waveT < s.pixelPeriod →
    let duty := fun p h : Nat => if p = 0 then 0 else min (h * 100 / p) 100
    let waiting := if s.measReady then some (duty s.periodTicks.toNat s.highTicks.toNat) else none
    let h := sampleHistory (duty s.snapPeriod.toNat s.snapHigh.toNat) waiting s.pixelPeriod.toNat s.waveT.toNat is
    ∃ t, execAll is s = some t ∧
      ∀ j, j < 128 → sampleAt t.waveBuf (127 - j) =
        if j < h.length then h.reverse.getD j false else sampleAt s.waveBuf (127 - j + h.length))

/-! ### The measurement commands (spec/43_edge_capture.md) -/

/-- R166: CONSUME. With a measurement ready it moves it to the snapshot and clears MEAS_READY; with none ready it
changes nothing; it answers the ready bit it found, then the snapshot. No transaction is made. -/
def Obligations.ConsumeTakesTheMeasurement : Prop :=
  ∀ s : State,
    (s.measReady = true → exec .consume s = .next { s with
      snapPeriod := s.periodTicks, snapHigh := s.highTicks, measReady := false
      rsp := s.rsp ++ [1, s.periodTicks, s.highTicks] }) ∧
    (s.measReady = false → exec .consume s = .next { s with rsp := s.rsp ++ [0, s.snapPeriod, s.snapHigh] })

/-- R70: an edge event in the slot that makes CONSUME's step is applied first, and CONSUME sees the state after it: a
falling event that completes a measurement, a rising one that overwrites the period of a ready measurement, and a
rising one while none is ready. The step is made in the slot that accepts the word at pace `command`, or in a later
slot of any pace at which the sequencer gets on. -/
def Obligations.ConsumeSeesTheEventOfItsSlot : Prop :=
  ∀ s : State, s.cfg.ok = true → s.nextSlot.rst = false →
    ((s.idle = true ∧ s.nextSlot.cmd = some 0x90000000 ∧ s.nextSlot.pace = .command) ∨
      (s.flight = none ∧ s.remaining = [.consume] ∧ s.nextSlot.pace ≠ .wait)) →
    let T := advanceCounter s.cfg s.nextSlot.ticks s.tsCounter
    let elapsed := tickSub s.cfg T s.prevRise
    (s.nextSlot.edge = some false → s.phase = .awaitingFalling →
      ∃ t, step s = .next t ∧ t.rsp = s.rsp ++ [1, s.periodTicks, elapsed] ∧ t.snapPeriod = s.periodTicks ∧
        t.snapHigh = elapsed ∧ t.measReady = false ∧ t.phase = .awaitingRising ∧ t.highTicks = elapsed ∧
        t.periodTicks = s.periodTicks ∧ t.prevRise = s.prevRise ∧ t.remaining = []) ∧
    (s.nextSlot.edge = some true → s.phase = .awaitingRising → s.measReady = true →
      ∃ t, step s = .next t ∧ t.rsp = s.rsp ++ [1, elapsed, s.highTicks] ∧ t.snapPeriod = elapsed ∧
        t.snapHigh = s.highTicks ∧ t.measReady = false ∧ t.phase = .awaitingFalling ∧ t.highTicks = s.highTicks ∧
        t.periodTicks = elapsed ∧ t.prevRise = T ∧ t.remaining = []) ∧
    (s.nextSlot.edge = some true → s.phase = .awaitingRising → s.measReady = false →
      ∃ t, step s = .next t ∧ t.rsp = s.rsp ++ [0, s.snapPeriod, s.snapHigh] ∧ s.sameSnapshot t ∧
        t.measReady = false ∧ t.phase = .awaitingFalling ∧ t.highTicks = s.highTicks ∧ t.periodTicks = elapsed ∧
        t.prevRise = T ∧ t.remaining = [])

/-- R70, R166, R181: CONSUME or READ_REG accepted in one slot at a pace other than `command` reads the registers when
its own indivisible step is made, in a later slot and at any pace: it leaves what the command leaves when run at once
on the state with every event up to and including that slot's taken. That READ_REG sees the event of its own slot is
the model's choice (notes/assumptions/30.md). The schedule of slots is the model's form (notes/assumptions/1.md,
2.md). -/
def Obligations.ConsumeAndReadRegReadAtTheirStep : Prop :=
  ∀ (s : State) (w : Word) (i : Instr) (first sl : Slot) (stalls rest : List Slot),
    s.cfg.ok = true → s.idle = true → s.inputs = first :: (stalls ++ sl :: rest) → first.rst = false →
    first.cmd = some w → first.pace ≠ .command → decode w = .ok i → (i = .consume ∨ ∃ x, i = .readReg x) →
    stalls.all Slot.stalls = true → sl.rst = false → sl.pace ≠ .wait →
    Host.Core.run Sys2Proof.core (stalls.length + 2) s =
      exec i { (stalls ++ [sl]).foldl (fun t x => openSlot x t) (openSlot first s.popSlot) with inputs := rest }

/-- R167-R170: DERIVE answers frequency, duty and period in microseconds (low word first), each by exact integer
arithmetic on the snapshot, and changes nothing else. -/
def Obligations.DeriveComputesFromTheSnapshot : Prop :=
  ∀ s : State, s.cfg.ok = true →
    let P := s.snapPeriod.toNat
    let H := s.snapHigh.toNat
    ∃ f d lo hi : Word, exec .derive s = .next { s with rsp := s.rsp ++ [f, d, lo, hi] } ∧
      f.toNat = (if P = 0 then 0 else s.cfg.tickRateHz / P) ∧ f.toNat ≤ s.cfg.tickRateHz ∧
      d.toNat = (if P = 0 then 0 else min (H * 100 / P) 100) ∧ d.toNat ≤ 100 ∧
      lo.toNat + 2 ^ 32 * hi.toNat = P * s.cfg.tickUsNum / s.cfg.tickUsDen

/-- R181-R183: READ_REG answers the register's word, by the index map and the STATUS layout, and changes nothing else.
-/
def Obligations.ReadRegAnswersTheRegister : Prop :=
  ∀ (idx : BitVec 8) (s : State), idx ≤ 0x0C →
    ∃ r : Word, exec (.readReg idx) s = .next { s with rsp := s.rsp ++ [r] } ∧
      (idx = 0x00 → r.getLsbD 0 = s.ill ∧ r.getLsbD 1 = s.measReady ∧
        r.getLsbD 2 = decide (s.phase = .awaitingFalling) ∧ r.getLsbD 3 = false ∧
        r.extractLsb' 4 4 = s.illCause ∧ r.extractLsb' 8 24 = 0) ∧
      (idx = 0x01 → r.extractLsb' 8 3 = s.curPage ∧ r.extractLsb' 0 7 = s.curCol ∧ r.getLsbD 7 = false ∧
        r.extractLsb' 11 21 = 0) ∧
      (idx = 0x02 → r.toNat = s.pixelPeriod.toNat) ∧
      (idx = 0x03 → r.toNat = s.waveT.toNat) ∧
      (0x04 ≤ idx → idx ≤ 0x07 → ∀ j, j < 32 → r.getLsbD j = sampleAt s.waveBuf (32 * (idx.toNat - 4) + j)) ∧
      (idx = 0x08 → r = s.prevRise) ∧
      (idx = 0x09 → r = s.periodTicks) ∧
      (idx = 0x0A → r = s.highTicks) ∧
      (idx = 0x0B → r = s.snapPeriod) ∧
      (idx = 0x0C → r = s.snapHigh)

/-! ### Whole-machine rules -/

/-- R93: the number of response words of every command. -/
def Obligations.ResponseCounts : Prop :=
  ∀ (i : Instr) (s : State), i.wf = true → ∃ t, exec i s = .next t ∧
    t.rsp.length = s.rsp.length +
      (match i with
       | .readByte _ => 1 | .consume => 3 | .derive => 4 | .readReg _ => 1
       | .nop | .sendCmd _ _ | .writeByte _ _ | .setAddress _ _ | .gotoxy _ _ | .displayChar _ | .waveConfig _
       | .waveStep _ | .waveStepM => 0)

/-- R33: without an edge event and without reset, no step writes PREV_RISE, PHASE, PERIOD_TICKS or HIGH_TICKS or sets
MEAS_READY; MEAS_READY is cleared, and the snapshot written, only by a step of CONSUME; the snapshot then holds the
registers as CONSUME found them. -/
def Obligations.CaptureRegistersHaveOneWriter : Prop :=
  ∀ s t : State, step s = .next t → s.nextSlot.rst = false → s.nextSlot.edge = none →
    t.prevRise = s.prevRise ∧ t.phase = s.phase ∧ t.periodTicks = s.periodTicks ∧ t.highTicks = s.highTicks ∧
    (t.measReady = true → s.measReady = true) ∧
    (¬(s.sameSnapshot t ∧ t.measReady = s.measReady) →
      (.consume ∈ s.remaining ∨ (s.idle = true ∧ s.nextSlot.cmd = some 0x90000000)) ∧ s.measReady = true ∧
        t.snapPeriod = s.periodTicks ∧ t.snapHigh = s.highTicks)

/-- R32: once ILL is set, no step but reset clears it or changes the recorded cause; no well-formed command touches
either mark; reset clears both. -/
def Obligations.IllegalMarkIsSticky : Prop :=
  (∀ s t : State, step s = .next t → s.nextSlot.rst = false → s.ill = true →
    t.ill = true ∧ t.illCause = s.illCause) ∧
  (∀ (i : Instr) (s : State), i.wf = true → ∃ t, exec i s = .next t ∧ s.sameStatus t) ∧
  (∀ s : State, s.cfg.ok = true → s.nextSlot.rst = true → ∃ t, step s = .next t ∧ t.ill = false ∧ t.illCause = 0) ∧
  (∀ (s : State) (w : Word) (c : Cause), s.cfg.ok = true → s.idle = true → s.nextSlot.rst = false →
    s.nextSlot.cmd = some w → decode w = .error c →
    ∃ t, step s = .next t ∧ t.ill = true ∧ (s.ill = false → t.illCause = c.code) ∧
      (s.ill = true → t.illCause = s.illCause))

/-- The written-by column of 10_state.md's table, over all commands: each group of registers is changed by no command
but the ones named; no display byte is changed but by the commands that write one. -/
def Obligations.EachRegisterHasItsWriters : Prop :=
  ∀ (i : Instr) (s : State), i.wf = true → ∃ t, exec i s = .next t ∧
    ((∀ p c, i ≠ .gotoxy p c) → (∀ code, i ≠ .displayChar code) → s.sameCursor t) ∧
    ((∀ d, i ≠ .waveStep d) → i ≠ .waveStepM → t.waveBuf = s.waveBuf) ∧
    ((∀ d, i ≠ .waveStep d) → i ≠ .waveStepM → (∀ p, i ≠ .waveConfig p) → t.waveT = s.waveT) ∧
    ((∀ p, i ≠ .waveConfig p) → t.pixelPeriod = s.pixelPeriod) ∧
    (i ≠ .consume → t.measReady = s.measReady ∧ s.sameSnapshot t) ∧
    (t.prevRise = s.prevRise ∧ t.phase = s.phase ∧ t.periodTicks = s.periodTicks ∧ t.highTicks = s.highTicks) ∧
    s.sameStatus t ∧ s.sameOutside t ∧ s.sameSequencer t ∧
    ((∀ ch b, i ≠ .writeByte ch b) → (∀ code, i ≠ .displayChar code) → (∀ d, i ≠ .waveStep d) →
      i ≠ .waveStepM → s.sameMemory t)

/-- R211: apart from the byte READ_BYTE answers, no command's effect on the block, and no response, depends on the
display: two states that differ only in the display, conforming or absent, stay so under any commands. -/
def Obligations.DisplayDoesNotReachTheBlock : Prop :=
  ∀ (is : List Instr) (s s' : State), (∀ i ∈ is, i.wf = true) → (∀ i ∈ is, ∀ ch, i ≠ .readByte ch) →
    s.withoutDisplay = s'.withoutDisplay →
    ∃ t t', execAll is s = some t ∧ execAll is s' = some t' ∧ t.withoutDisplay = t'.withoutDisplay ∧
      ∀ d, t.trace.length = s.trace.length + d → t'.trace.length = s'.trace.length + d

/-- R95: the assembler takes every operand form of its list, with every operand in its stated range, and refuses every
other number (none is truncated), every other number of operands and every other mnemonic. R96: a string becomes one
DISPLAY_CHAR a byte up to the first 0x00. The form of a line (notes/assumptions/23.md) plays no part. -/
def Obligations.AssemblerRefusesOutOfRange : Prop :=
  (∀ ops : List Nat,
    assembleInstr "NOP".toList ops = (if ops = [] then some .nop else none) ∧
    assembleInstr "WAVE_STEP_M".toList ops = (if ops = [] then some .waveStepM else none) ∧
    assembleInstr "CONSUME".toList ops = (if ops = [] then some .consume else none) ∧
    assembleInstr "DERIVE".toList ops = (if ops = [] then some .derive else none)) ∧
  (∀ a b : Nat,
    assembleInstr "SEND_CMD".toList [a, b] =
      (if a ≤ 3 ∧ b ≤ 255 then some (.sendCmd (BitVec.ofNat 2 a) (BitVec.ofNat 8 b)) else none) ∧
    assembleInstr "WRITE_BYTE".toList [a, b] =
      (if a ≤ 3 ∧ b ≤ 255 then some (.writeByte (BitVec.ofNat 2 a) (BitVec.ofNat 8 b)) else none) ∧
    assembleInstr "SET_ADDRESS".toList [a, b] =
      (if a ≤ 7 ∧ b ≤ 127 then some (.setAddress (BitVec.ofNat 3 a) (BitVec.ofNat 7 b)) else none) ∧
    assembleInstr "GOTOXY".toList [a, b] =
      (if a ≤ 7 ∧ b ≤ 127 then some (.gotoxy (BitVec.ofNat 3 a) (BitVec.ofNat 7 b)) else none) ∧
    assembleInstr "READ_BYTE".toList [a] = (if a ≤ 3 then some (.readByte (BitVec.ofNat 2 a)) else none) ∧
    assembleInstr "DISPLAY_CHAR".toList [a] = (if a ≤ 255 then some (.displayChar (BitVec.ofNat 8 a)) else none) ∧
    assembleInstr "WAVE_CONFIG".toList [a] =
      (if 1 ≤ a ∧ a ≤ 127 then some (.waveConfig (BitVec.ofNat 7 a)) else none) ∧
    assembleInstr "WAVE_STEP".toList [a] = (if a ≤ 100 then some (.waveStep (BitVec.ofNat 7 a)) else none) ∧
    assembleInstr "READ_REG".toList [a] = (if a ≤ 12 then some (.readReg (BitVec.ofNat 8 a)) else none)) ∧
  (∀ ops : List Nat,
    (∀ m ∈ ["SEND_CMD".toList, "WRITE_BYTE".toList, "SET_ADDRESS".toList, "GOTOXY".toList],
      ops.length ≠ 2 → assembleInstr m ops = none) ∧
    (∀ m ∈ ["READ_BYTE".toList, "DISPLAY_CHAR".toList, "WAVE_CONFIG".toList, "WAVE_STEP".toList,
      "READ_REG".toList], ops.length ≠ 1 → assembleInstr m ops = none)) ∧
  (∀ (m : List Char) (ops : List Nat) (i : Instr), assembleInstr m ops = some i → i.wf = true ∧
    m ∈ ["NOP".toList, "SEND_CMD".toList, "WRITE_BYTE".toList, "READ_BYTE".toList, "SET_ADDRESS".toList,
      "GOTOXY".toList, "DISPLAY_CHAR".toList, "WAVE_CONFIG".toList, "WAVE_STEP".toList, "WAVE_STEP_M".toList,
      "CONSUME".toList, "DERIVE".toList, "READ_REG".toList]) ∧
  (∀ a b : List Byte, (∀ x ∈ a, x ≠ 0) →
    displayString (a ++ 0 :: b) = a.map Instr.displayChar ∧ displayString a = a.map Instr.displayChar)

/-- R95: in an operand a character in single quotes stands for its ASCII code, whichever character it is, a space, a
comma and the quote itself among them; it may stand beside another operand. The spaces of the line are the model's
form (notes/assumptions/23.md). -/
def Obligations.QuotedCharacterIsItsCode : Prop :=
  ∀ (c q : Char), c.toNat < 128 → q.toNat = 39 →
    assembleCommands ("DISPLAY_CHAR ".toList ++ [q, c, q]) = some [.displayChar (BitVec.ofNat 8 c.toNat)] ∧
    assembleCommands ("WRITE_BYTE 2, ".toList ++ [q, c, q]) = some [.writeByte 2 (BitVec.ofNat 8 c.toNat)]
end

