-- ==== Sys2Proof/Laws/Assembler.lean ====
section
/-! SUPPORT. What the helpers of the assembler do, said once: fields, and the splitting of operands at commas. -/

namespace Sys2Proof.Machine

@[simp] theorem asField_of_lt {w n : Nat} (h : n < 2 ^ w) : asField w n = some (BitVec.ofNat w n) := if_pos h

@[simp] theorem asField_of_le {w n : Nat} (h : 2 ^ w ≤ n) : asField w n = none := if_neg (Nat.not_lt.mpr h)

/-- A field is what the number is, or nothing: no number is truncated. -/
theorem asField_toNat {w n : Nat} {v : BitVec w} (h : asField w n = some v) : v.toNat = n := by
  unfold asField at h
  split at h
  · cases h; simpa using Nat.mod_eq_of_lt ‹_›
  · cases h

@[simp] theorem consFirst_cons (c : Char) (f : List Char) (fs : List (List Char)) :
    consFirst c (f :: fs) = (c :: f) :: fs := rfl

@[simp] theorem splitCommas_nil (n : Nat) : splitCommas n [] = [[]] := by cases n <;> rfl

@[simp] theorem splitCommas_pass (n : Nat) (c : Char) (cs : List Char) :
    splitCommas (n + 1) (c :: cs) = consFirst c (splitCommas n cs) := rfl

@[simp] theorem splitCommas_comma (cs : List Char) : splitCommas 0 (',' :: cs) = [] :: splitCommas 0 cs := rfl

/-- A character in single quotes belongs whole to the operand it stands in, be it a comma. -/
theorem splitCommas_quoted {q q' : Char} (hq : q.toNat = 39) (hq' : q'.toNat = 39) (c : Char) (cs : List Char) :
    splitCommas 0 (q :: c :: q' :: cs) = consFirst q (consFirst c (consFirst q' (splitCommas 0 cs))) := by
  have hne : q ≠ ',' := by rintro rfl; exact absurd hq (by decide)
  simp [splitCommas, startsQuoted, hne, hq, hq']

/-- A character that is no comma and begins no quoted character stands in the operand it stands in. -/
theorem splitCommas_plain {c : Char} {cs : List Char} (hc : c ≠ ',') (h : startsQuoted (c :: cs) = false) :
    splitCommas 0 (c :: cs) = consFirst c (splitCommas 0 cs) := by simp [splitCommas, hc, h]

end Sys2Proof.Machine
end

