-- ==== Sys2Proof/Laws/Memory.lean ====
section
/-! SUPPORT. Laws of the display memory: reading after writing, the canonical form, display addresses. -/

namespace Sys2Proof.Machine

@[simp] theorem Mem.byteAt_nil (x : Nat) : Mem.byteAt [] x = none := rfl

@[simp] theorem Mem.byteAt_store_same (m : Mem) (x : Nat) (v : Byte) : (Mem.store m x v).byteAt x = some v := by
  induction m with
  | nil => simp [Mem.store, Mem.byteAt]
  | cons c m ih =>
    obtain ⟨a, b⟩ := c
    simp only [Mem.store]
    split_ifs with h1 h2
    · simp [Mem.byteAt]
    · simp [Mem.byteAt]
    · simp [Mem.byteAt, h2, h1, ih]

@[simp] theorem Mem.byteAt_store_other (m : Mem) {x y : Nat} (v : Byte) (h : y ≠ x) :
    (Mem.store m x v).byteAt y = m.byteAt y := by
  induction m with
  | nil => simp [Mem.store, Mem.byteAt, h]
  | cons c m ih =>
    obtain ⟨a, b⟩ := c
    simp only [Mem.store]
    split_ifs with h1 h2
    · rcases Nat.lt_or_gt_of_ne h with hy | hy
      · simp [Mem.byteAt, h, hy, Nat.lt_trans hy h1, Nat.ne_of_lt (Nat.lt_trans hy h1)]
      · simp [Mem.byteAt, h, Nat.not_lt.mpr (Nat.le_of_lt hy)]
    · simp [Mem.byteAt, ← h2, h]
    · simp only [Mem.byteAt, ih]

/-- A store keeps the canonical form, for any lower bound at or below the address stored to. -/
theorem Mem.store_risingFrom {m : Mem} {lo x : Nat} {v : Byte} (hm : Mem.risingFrom lo m = true) (hlo : lo ≤ x)
    (hx : x < 1024) : Mem.risingFrom lo (Mem.store m x v) = true := by
  induction m generalizing lo with
  | nil => simp [Mem.store, Mem.risingFrom, hlo, hx]
  | cons c m ih =>
    obtain ⟨a, b⟩ := c
    simp only [Mem.risingFrom, Bool.and_eq_true, decide_eq_true_eq] at hm
    simp only [Mem.store]
    split_ifs with h1 h2
    · simp only [Mem.risingFrom, Bool.and_eq_true, decide_eq_true_eq]
      exact ⟨⟨hlo, hx⟩, ⟨by omega, hm.1.2⟩, hm.2⟩
    · subst h2
      simp only [Mem.risingFrom, Bool.and_eq_true, decide_eq_true_eq]
      exact ⟨⟨hlo, hx⟩, hm.2⟩
    · simp only [Mem.risingFrom, Bool.and_eq_true, decide_eq_true_eq]
      exact ⟨hm.1, ih hm.2 (by omega)⟩

/-- Every store inside the 1024 display bytes keeps the canonical form. -/
theorem Mem.store_wf {m : Mem} {x : Nat} (v : Byte) (hm : m.wf = true) (hx : x < 1024) :
    (Mem.store m x v).wf = true :=
  Mem.store_risingFrom hm (Nat.zero_le x) hx

theorem dispAddr_lt (k : Chip) (p : BitVec 3) (c : BitVec 6) : dispAddr k p c < 1024 := by
  have hp := p.isLt
  have hc := c.isLt
  cases k <;> simp only [dispAddr] <;> omega

theorem dispAddr_inj {k k' : Chip} {p p' : BitVec 3} {c c' : BitVec 6}
    (h : dispAddr k p c = dispAddr k' p' c') : k = k' ∧ p = p' ∧ c = c' := by
  have hp := p.isLt
  have hp' := p'.isLt
  have hc := c.isLt
  have hc' := c'.isLt
  have hk : k = k' := by cases k <;> cases k' <;> simp_all [dispAddr] <;> omega
  subst hk
  refine ⟨rfl, BitVec.eq_of_toNat_eq ?_, BitVec.eq_of_toNat_eq ?_⟩ <;> cases k <;> simp only [dispAddr] at h <;> omega

theorem Display.pointer_lt (d : Display) (k : Chip) : d.pointer k < 1024 := dispAddr_lt _ _ _

@[simp] theorem Display.ctl_setCtl_same (d : Display) (k : Chip) (c : Controller) : (d.setCtl k c).ctl k = c := by
  cases k <;> rfl

theorem Display.ctl_setCtl_other (d : Display) {k k' : Chip} (c : Controller) (h : k' ≠ k) :
    (d.setCtl k c).ctl k' = d.ctl k' := by
  cases k <;> cases k' <;> first | rfl | exact absurd rfl h

@[simp] theorem Display.ram_setCtl (d : Display) (k : Chip) (c : Controller) : (d.setCtl k c).ram = d.ram := by
  cases k <;> rfl

@[simp] theorem Display.epoch_setCtl (d : Display) (k : Chip) (c : Controller) : (d.setCtl k c).epoch = d.epoch := by
  cases k <;> rfl

@[simp] theorem Display.setCtl_setCtl (d : Display) (k : Chip) (c c' : Controller) :
    (d.setCtl k c).setCtl k c' = d.setCtl k c' := by
  cases k <;> rfl

@[simp] theorem Display.byteAt_setCtl (d : Display) (k : Chip) (c : Controller) (a : Nat) :
    (d.setCtl k c).byteAt a = d.byteAt a := by
  cases k <;> rfl

@[simp] theorem Display.byteAt_store_same (d : Display) (x : Nat) (v : Byte) :
    ({ d with ram := d.ram.store x v } : Display).byteAt x = v := by
  simp [Display.byteAt]

@[simp] theorem Display.byteAt_store_other (d : Display) {x y : Nat} (v : Byte) (h : y ≠ x) :
    ({ d with ram := d.ram.store x v } : Display).byteAt y = d.byteAt y := by
  simp [Display.byteAt, h]

@[simp] theorem Display.advance_ram (cfg : Config) (k : Chip) (d : Display) : (d.advance cfg k).ram = d.ram := by
  unfold Display.advance; split <;> simp

@[simp] theorem Display.byteAt_advance (cfg : Config) (k : Chip) (d : Display) (a : Nat) :
    (d.advance cfg k).byteAt a = d.byteAt a := by
  unfold Display.advance; split <;> simp

@[simp] theorem Display.onCmd_ram (cfg : Config) (k : Chip) (b : Byte) (d : Display) :
    (d.onCmd cfg k b).ram = d.ram := by
  unfold Display.onCmd; split_ifs <;> simp

@[simp] theorem Display.byteAt_onCmd (cfg : Config) (k : Chip) (b : Byte) (d : Display) (a : Nat) :
    (d.onCmd cfg k b).byteAt a = d.byteAt a := by
  unfold Display.onCmd; split_ifs <;> simp

/-- A data write lands at the controller's pointer (R61). -/
theorem Display.byteAt_onWrite_same (cfg : Config) (k : Chip) (b : Byte) (d : Display) :
    (d.onWrite cfg k b).byteAt (d.pointer k) = b := by
  simp [Display.onWrite]

/-- A data write changes no other display byte (R61). -/
theorem Display.byteAt_onWrite_other (cfg : Config) (k : Chip) (b : Byte) (d : Display) {a : Nat}
    (h : a ≠ d.pointer k) : (d.onWrite cfg k b).byteAt a = d.byteAt a := by
  simp [Display.onWrite, h]

/-- Every operation of a controller keeps the memory's canonical form (R50). -/
theorem Display.onWrite_wf (cfg : Config) (k : Chip) (b : Byte) {d : Display} (h : d.ram.wf = true) :
    (d.onWrite cfg k b).ram.wf = true := by
  simp [Display.onWrite, Mem.store_wf b h (d.pointer_lt k)]

theorem Display.powerUp_wf (n : Nat) (d : Display) : (d.powerUp n).ram.wf = true := rfl

/-- Every transaction keeps the memory's canonical form (R50). -/
theorem busEffect_wf (t : Txn) {s : State} (h : s.disp.ram.wf = true) : (busEffect t s).disp.ram.wf = true := by
  cases t with
  | cmd k b => simp only [busEffect, busCmd]; split <;> simp [State.log, h]
  | write k b =>
    simp only [busEffect, busWrData]; split <;> simp [State.log, h, Display.onWrite_wf]
  | writeOr k m =>
    simp only [busEffect, busWrData]; split <;> simp [State.log, h, Display.onWrite_wf]
  | read k u =>
    simp only [busEffect, busRdData]
    cases u <;> simp only [useRead, State.respond] <;> split <;> simp [State.log, h]

end Sys2Proof.Machine
end

