-- ==== Sys2Proof/Laws/PerInstr.lean ====
section
/-! SUPPORT. A statement for all commands, one lemma a constructor: the word of a well-formed command lies in its
row of the opcode map (spec/30_encoding.md R89). -/

namespace Sys2Proof.Laws.EncodesInItsRow

/-- The encoded word meets its row's match, mask and value constraint (R89). -/
def Statement (i : Instr) : Prop :=
  i.wf = true → encode i &&& i.tableRow.2 = i.tableRow.1 ∧ i.rowConstraint (encode i) = true

theorem nop : Statement .nop := by unfold Statement; decide

theorem sendCmd (ch : BitVec 2) (data : Byte) : Statement (.sendCmd ch data) := by
  unfold Statement; revert ch data; decide +kernel

theorem writeByte (ch : BitVec 2) (data : Byte) : Statement (.writeByte ch data) := by
  unfold Statement; revert ch data; decide +kernel

theorem readByte (ch : BitVec 2) : Statement (.readByte ch) := by
  unfold Statement; revert ch; decide +kernel

theorem setAddress (pg : BitVec 3) (col : BitVec 7) : Statement (.setAddress pg col) := by
  unfold Statement; revert pg col; decide +kernel

theorem gotoxy (pg : BitVec 3) (col : BitVec 7) : Statement (.gotoxy pg col) := by
  unfold Statement; revert pg col; decide +kernel

theorem displayChar (code : Byte) : Statement (.displayChar code) := by
  unfold Statement; revert code; decide +kernel

theorem waveConfig (per : BitVec 7) : Statement (.waveConfig per) := by
  unfold Statement; revert per; decide +kernel

theorem waveStep (duty : BitVec 7) : Statement (.waveStep duty) := by
  unfold Statement; revert duty; decide +kernel

theorem waveStepM : Statement .waveStepM := by unfold Statement; decide

theorem consume : Statement .consume := by unfold Statement; decide

theorem derive : Statement .derive := by unfold Statement; decide

theorem readReg (idx : BitVec 8) : Statement (.readReg idx) := by
  unfold Statement; revert idx; decide +kernel

end Sys2Proof.Laws.EncodesInItsRow
end

