-- ==== Sys2Proof/Laws/State.lean ====
section
/-! SUPPORT. The small laws of the state updates: for every operation, the fields it leaves as they were, and the
value of each field it writes where that value is one expression. Tagged for simp, so that no later proof
unfolds a record update. -/

namespace Sys2Proof.Machine


section log
variable (r : BusRecord) (s : State)

@[simp] theorem log_cfg : (State.log r s).cfg = s.cfg := rfl
@[simp] theorem log_curPage : (State.log r s).curPage = s.curPage := rfl
@[simp] theorem log_curCol : (State.log r s).curCol = s.curCol := rfl
@[simp] theorem log_waveBuf : (State.log r s).waveBuf = s.waveBuf := rfl
@[simp] theorem log_waveT : (State.log r s).waveT = s.waveT := rfl
@[simp] theorem log_pixelPeriod : (State.log r s).pixelPeriod = s.pixelPeriod := rfl
@[simp] theorem log_prevRise : (State.log r s).prevRise = s.prevRise := rfl
@[simp] theorem log_phase : (State.log r s).phase = s.phase := rfl
@[simp] theorem log_periodTicks : (State.log r s).periodTicks = s.periodTicks := rfl
@[simp] theorem log_highTicks : (State.log r s).highTicks = s.highTicks := rfl
@[simp] theorem log_measReady : (State.log r s).measReady = s.measReady := rfl
@[simp] theorem log_snapPeriod : (State.log r s).snapPeriod = s.snapPeriod := rfl
@[simp] theorem log_snapHigh : (State.log r s).snapHigh = s.snapHigh := rfl
@[simp] theorem log_ill : (State.log r s).ill = s.ill := rfl
@[simp] theorem log_illCause : (State.log r s).illCause = s.illCause := rfl
@[simp] theorem log_remaining : (State.log r s).remaining = s.remaining := rfl
@[simp] theorem log_flight : (State.log r s).flight = s.flight := rfl
@[simp] theorem log_rdLatch : (State.log r s).rdLatch = s.rdLatch := rfl
@[simp] theorem log_rsp : (State.log r s).rsp = s.rsp := rfl
@[simp] theorem log_pins : (State.log r s).pins = s.pins := rfl
@[simp] theorem log_disp : (State.log r s).disp = s.disp := rfl
@[simp] theorem log_tsCounter : (State.log r s).tsCounter = s.tsCounter := rfl
@[simp] theorem log_draws : (State.log r s).draws = s.draws := rfl
@[simp] theorem log_inputs : (State.log r s).inputs = s.inputs := rfl
@[simp] theorem log_trace : (State.log r s).trace = r :: s.trace := rfl
@[simp] theorem log_rspLog : (State.log r s).rspLog = s.rspLog := rfl

end log

section respond
variable (ws : List Word) (s : State)

@[simp] theorem respond_cfg : (State.respond ws s).cfg = s.cfg := rfl
@[simp] theorem respond_curPage : (State.respond ws s).curPage = s.curPage := rfl
@[simp] theorem respond_curCol : (State.respond ws s).curCol = s.curCol := rfl
@[simp] theorem respond_waveBuf : (State.respond ws s).waveBuf = s.waveBuf := rfl
@[simp] theorem respond_waveT : (State.respond ws s).waveT = s.waveT := rfl
@[simp] theorem respond_pixelPeriod : (State.respond ws s).pixelPeriod = s.pixelPeriod := rfl
@[simp] theorem respond_prevRise : (State.respond ws s).prevRise = s.prevRise := rfl
@[simp] theorem respond_phase : (State.respond ws s).phase = s.phase := rfl
@[simp] theorem respond_periodTicks : (State.respond ws s).periodTicks = s.periodTicks := rfl
@[simp] theorem respond_highTicks : (State.respond ws s).highTicks = s.highTicks := rfl
@[simp] theorem respond_measReady : (State.respond ws s).measReady = s.measReady := rfl
@[simp] theorem respond_snapPeriod : (State.respond ws s).snapPeriod = s.snapPeriod := rfl
@[simp] theorem respond_snapHigh : (State.respond ws s).snapHigh = s.snapHigh := rfl
@[simp] theorem respond_ill : (State.respond ws s).ill = s.ill := rfl
@[simp] theorem respond_illCause : (State.respond ws s).illCause = s.illCause := rfl
@[simp] theorem respond_remaining : (State.respond ws s).remaining = s.remaining := rfl
@[simp] theorem respond_flight : (State.respond ws s).flight = s.flight := rfl
@[simp] theorem respond_rdLatch : (State.respond ws s).rdLatch = s.rdLatch := rfl
@[simp] theorem respond_rsp : (State.respond ws s).rsp = s.rsp ++ ws := rfl
@[simp] theorem respond_pins : (State.respond ws s).pins = s.pins := rfl
@[simp] theorem respond_disp : (State.respond ws s).disp = s.disp := rfl
@[simp] theorem respond_tsCounter : (State.respond ws s).tsCounter = s.tsCounter := rfl
@[simp] theorem respond_draws : (State.respond ws s).draws = s.draws := rfl
@[simp] theorem respond_inputs : (State.respond ws s).inputs = s.inputs := rfl
@[simp] theorem respond_trace : (State.respond ws s).trace = s.trace := rfl
@[simp] theorem respond_rspLog : (State.respond ws s).rspLog = s.rspLog := rfl

end respond

section releaseBus
variable (s : State)

@[simp] theorem releaseBus_cfg : (releaseBus s).cfg = s.cfg := rfl
@[simp] theorem releaseBus_curPage : (releaseBus s).curPage = s.curPage := rfl
@[simp] theorem releaseBus_curCol : (releaseBus s).curCol = s.curCol := rfl
@[simp] theorem releaseBus_waveBuf : (releaseBus s).waveBuf = s.waveBuf := rfl
@[simp] theorem releaseBus_waveT : (releaseBus s).waveT = s.waveT := rfl
@[simp] theorem releaseBus_pixelPeriod : (releaseBus s).pixelPeriod = s.pixelPeriod := rfl
@[simp] theorem releaseBus_prevRise : (releaseBus s).prevRise = s.prevRise := rfl
@[simp] theorem releaseBus_phase : (releaseBus s).phase = s.phase := rfl
@[simp] theorem releaseBus_periodTicks : (releaseBus s).periodTicks = s.periodTicks := rfl
@[simp] theorem releaseBus_highTicks : (releaseBus s).highTicks = s.highTicks := rfl
@[simp] theorem releaseBus_measReady : (releaseBus s).measReady = s.measReady := rfl
@[simp] theorem releaseBus_snapPeriod : (releaseBus s).snapPeriod = s.snapPeriod := rfl
@[simp] theorem releaseBus_snapHigh : (releaseBus s).snapHigh = s.snapHigh := rfl
@[simp] theorem releaseBus_ill : (releaseBus s).ill = s.ill := rfl
@[simp] theorem releaseBus_illCause : (releaseBus s).illCause = s.illCause := rfl
@[simp] theorem releaseBus_remaining : (releaseBus s).remaining = s.remaining := rfl
@[simp] theorem releaseBus_flight : (releaseBus s).flight = s.flight := rfl
@[simp] theorem releaseBus_rdLatch : (releaseBus s).rdLatch = s.rdLatch := rfl
@[simp] theorem releaseBus_rsp : (releaseBus s).rsp = s.rsp := rfl
@[simp] theorem releaseBus_pins : (releaseBus s).pins = Pins.idle s.cfg (Config.idleDbOut s.draws) := rfl
@[simp] theorem releaseBus_disp : (releaseBus s).disp = s.disp := rfl
@[simp] theorem releaseBus_tsCounter : (releaseBus s).tsCounter = s.tsCounter := rfl
@[simp] theorem releaseBus_draws : (releaseBus s).draws = s.draws + 1 := rfl
@[simp] theorem releaseBus_inputs : (releaseBus s).inputs = s.inputs := rfl
@[simp] theorem releaseBus_trace : (releaseBus s).trace = s.trace := rfl
@[simp] theorem releaseBus_rspLog : (releaseBus s).rspLog = s.rspLog := rfl

end releaseBus

section illegalCommand
variable (c : Cause) (s : State)

@[simp] theorem illegalCommand_cfg : (illegalCommand c s).cfg = s.cfg := rfl
@[simp] theorem illegalCommand_curPage : (illegalCommand c s).curPage = s.curPage := rfl
@[simp] theorem illegalCommand_curCol : (illegalCommand c s).curCol = s.curCol := rfl
@[simp] theorem illegalCommand_waveBuf : (illegalCommand c s).waveBuf = s.waveBuf := rfl
@[simp] theorem illegalCommand_waveT : (illegalCommand c s).waveT = s.waveT := rfl
@[simp] theorem illegalCommand_pixelPeriod : (illegalCommand c s).pixelPeriod = s.pixelPeriod := rfl
@[simp] theorem illegalCommand_prevRise : (illegalCommand c s).prevRise = s.prevRise := rfl
@[simp] theorem illegalCommand_phase : (illegalCommand c s).phase = s.phase := rfl
@[simp] theorem illegalCommand_periodTicks : (illegalCommand c s).periodTicks = s.periodTicks := rfl
@[simp] theorem illegalCommand_highTicks : (illegalCommand c s).highTicks = s.highTicks := rfl
@[simp] theorem illegalCommand_measReady : (illegalCommand c s).measReady = s.measReady := rfl
@[simp] theorem illegalCommand_snapPeriod : (illegalCommand c s).snapPeriod = s.snapPeriod := rfl
@[simp] theorem illegalCommand_snapHigh : (illegalCommand c s).snapHigh = s.snapHigh := rfl
@[simp] theorem illegalCommand_ill : (illegalCommand c s).ill = true := rfl
@[simp] theorem illegalCommand_illCause : (illegalCommand c s).illCause = if s.ill then s.illCause else c.code := rfl
@[simp] theorem illegalCommand_remaining : (illegalCommand c s).remaining = s.remaining := rfl
@[simp] theorem illegalCommand_flight : (illegalCommand c s).flight = s.flight := rfl
@[simp] theorem illegalCommand_rdLatch : (illegalCommand c s).rdLatch = s.rdLatch := rfl
@[simp] theorem illegalCommand_rsp : (illegalCommand c s).rsp = s.rsp := rfl
@[simp] theorem illegalCommand_pins : (illegalCommand c s).pins = s.pins := rfl
@[simp] theorem illegalCommand_disp : (illegalCommand c s).disp = s.disp := rfl
@[simp] theorem illegalCommand_tsCounter : (illegalCommand c s).tsCounter = s.tsCounter := rfl
@[simp] theorem illegalCommand_draws : (illegalCommand c s).draws = s.draws := rfl
@[simp] theorem illegalCommand_inputs : (illegalCommand c s).inputs = s.inputs := rfl
@[simp] theorem illegalCommand_trace : (illegalCommand c s).trace = s.trace := rfl
@[simp] theorem illegalCommand_rspLog : (illegalCommand c s).rspLog = s.rspLog := rfl

end illegalCommand

section sampleStep
variable (d : Nat) (s : State)

@[simp] theorem sampleStep_cfg : (sampleStep d s).cfg = s.cfg := rfl
@[simp] theorem sampleStep_curPage : (sampleStep d s).curPage = s.curPage := rfl
@[simp] theorem sampleStep_curCol : (sampleStep d s).curCol = s.curCol := rfl
@[simp] theorem sampleStep_waveBuf : (sampleStep d s).waveBuf = shiftIn (s.nextSample d) s.waveBuf := rfl
@[simp] theorem sampleStep_waveT : (sampleStep d s).waveT = BitVec.ofNat 7 ((s.waveT.toNat + 1) % s.pixelPeriod.toNat) := rfl
@[simp] theorem sampleStep_pixelPeriod : (sampleStep d s).pixelPeriod = s.pixelPeriod := rfl
@[simp] theorem sampleStep_prevRise : (sampleStep d s).prevRise = s.prevRise := rfl
@[simp] theorem sampleStep_phase : (sampleStep d s).phase = s.phase := rfl
@[simp] theorem sampleStep_periodTicks : (sampleStep d s).periodTicks = s.periodTicks := rfl
@[simp] theorem sampleStep_highTicks : (sampleStep d s).highTicks = s.highTicks := rfl
@[simp] theorem sampleStep_measReady : (sampleStep d s).measReady = s.measReady := rfl
@[simp] theorem sampleStep_snapPeriod : (sampleStep d s).snapPeriod = s.snapPeriod := rfl
@[simp] theorem sampleStep_snapHigh : (sampleStep d s).snapHigh = s.snapHigh := rfl
@[simp] theorem sampleStep_ill : (sampleStep d s).ill = s.ill := rfl
@[simp] theorem sampleStep_illCause : (sampleStep d s).illCause = s.illCause := rfl
@[simp] theorem sampleStep_remaining : (sampleStep d s).remaining = s.remaining := rfl
@[simp] theorem sampleStep_flight : (sampleStep d s).flight = s.flight := rfl
@[simp] theorem sampleStep_rdLatch : (sampleStep d s).rdLatch = s.rdLatch := rfl
@[simp] theorem sampleStep_rsp : (sampleStep d s).rsp = s.rsp := rfl
@[simp] theorem sampleStep_pins : (sampleStep d s).pins = s.pins := rfl
@[simp] theorem sampleStep_disp : (sampleStep d s).disp = s.disp := rfl
@[simp] theorem sampleStep_tsCounter : (sampleStep d s).tsCounter = s.tsCounter := rfl
@[simp] theorem sampleStep_draws : (sampleStep d s).draws = s.draws := rfl
@[simp] theorem sampleStep_inputs : (sampleStep d s).inputs = s.inputs := rfl
@[simp] theorem sampleStep_trace : (sampleStep d s).trace = s.trace := rfl
@[simp] theorem sampleStep_rspLog : (sampleStep d s).rspLog = s.rspLog := rfl

end sampleStep

section popSlot
variable (s : State)

@[simp] theorem popSlot_cfg : (State.popSlot s).cfg = s.cfg := rfl
@[simp] theorem popSlot_curPage : (State.popSlot s).curPage = s.curPage := rfl
@[simp] theorem popSlot_curCol : (State.popSlot s).curCol = s.curCol := rfl
@[simp] theorem popSlot_waveBuf : (State.popSlot s).waveBuf = s.waveBuf := rfl
@[simp] theorem popSlot_waveT : (State.popSlot s).waveT = s.waveT := rfl
@[simp] theorem popSlot_pixelPeriod : (State.popSlot s).pixelPeriod = s.pixelPeriod := rfl
@[simp] theorem popSlot_prevRise : (State.popSlot s).prevRise = s.prevRise := rfl
@[simp] theorem popSlot_phase : (State.popSlot s).phase = s.phase := rfl
@[simp] theorem popSlot_periodTicks : (State.popSlot s).periodTicks = s.periodTicks := rfl
@[simp] theorem popSlot_highTicks : (State.popSlot s).highTicks = s.highTicks := rfl
@[simp] theorem popSlot_measReady : (State.popSlot s).measReady = s.measReady := rfl
@[simp] theorem popSlot_snapPeriod : (State.popSlot s).snapPeriod = s.snapPeriod := rfl
@[simp] theorem popSlot_snapHigh : (State.popSlot s).snapHigh = s.snapHigh := rfl
@[simp] theorem popSlot_ill : (State.popSlot s).ill = s.ill := rfl
@[simp] theorem popSlot_illCause : (State.popSlot s).illCause = s.illCause := rfl
@[simp] theorem popSlot_remaining : (State.popSlot s).remaining = s.remaining := rfl
@[simp] theorem popSlot_flight : (State.popSlot s).flight = s.flight := rfl
@[simp] theorem popSlot_rdLatch : (State.popSlot s).rdLatch = s.rdLatch := rfl
@[simp] theorem popSlot_rsp : (State.popSlot s).rsp = s.rsp := rfl
@[simp] theorem popSlot_pins : (State.popSlot s).pins = s.pins := rfl
@[simp] theorem popSlot_disp : (State.popSlot s).disp = s.disp := rfl
@[simp] theorem popSlot_tsCounter : (State.popSlot s).tsCounter = s.tsCounter := rfl
@[simp] theorem popSlot_draws : (State.popSlot s).draws = s.draws := rfl
@[simp] theorem popSlot_inputs : (State.popSlot s).inputs = s.inputs.tail := rfl
@[simp] theorem popSlot_trace : (State.popSlot s).trace = s.trace := rfl
@[simp] theorem popSlot_rspLog : (State.popSlot s).rspLog = s.rspLog := rfl

end popSlot

section begin
variable (i : Instr) (s : State)

@[simp] theorem begin_cfg : (begin i s).cfg = s.cfg := rfl
@[simp] theorem begin_curPage : (begin i s).curPage = s.curPage := rfl
@[simp] theorem begin_curCol : (begin i s).curCol = s.curCol := rfl
@[simp] theorem begin_waveBuf : (begin i s).waveBuf = s.waveBuf := rfl
@[simp] theorem begin_waveT : (begin i s).waveT = s.waveT := rfl
@[simp] theorem begin_pixelPeriod : (begin i s).pixelPeriod = s.pixelPeriod := rfl
@[simp] theorem begin_prevRise : (begin i s).prevRise = s.prevRise := rfl
@[simp] theorem begin_phase : (begin i s).phase = s.phase := rfl
@[simp] theorem begin_periodTicks : (begin i s).periodTicks = s.periodTicks := rfl
@[simp] theorem begin_highTicks : (begin i s).highTicks = s.highTicks := rfl
@[simp] theorem begin_measReady : (begin i s).measReady = s.measReady := rfl
@[simp] theorem begin_snapPeriod : (begin i s).snapPeriod = s.snapPeriod := rfl
@[simp] theorem begin_snapHigh : (begin i s).snapHigh = s.snapHigh := rfl
@[simp] theorem begin_ill : (begin i s).ill = s.ill := rfl
@[simp] theorem begin_illCause : (begin i s).illCause = s.illCause := rfl
@[simp] theorem begin_remaining : (begin i s).remaining = programOf i s := rfl
@[simp] theorem begin_flight : (begin i s).flight = s.flight := rfl
@[simp] theorem begin_rdLatch : (begin i s).rdLatch = s.rdLatch := rfl
@[simp] theorem begin_rsp : (begin i s).rsp = s.rsp := rfl
@[simp] theorem begin_pins : (begin i s).pins = s.pins := rfl
@[simp] theorem begin_disp : (begin i s).disp = s.disp := rfl
@[simp] theorem begin_tsCounter : (begin i s).tsCounter = s.tsCounter := rfl
@[simp] theorem begin_draws : (begin i s).draws = s.draws := rfl
@[simp] theorem begin_inputs : (begin i s).inputs = s.inputs := rfl
@[simp] theorem begin_trace : (begin i s).trace = s.trace := rfl
@[simp] theorem begin_rspLog : (begin i s).rspLog = s.rspLog := rfl

end begin

section startTxn
variable (t : Txn) (s : State)

@[simp] theorem startTxn_cfg : (startTxn t s).cfg = s.cfg := rfl
@[simp] theorem startTxn_curPage : (startTxn t s).curPage = s.curPage := rfl
@[simp] theorem startTxn_curCol : (startTxn t s).curCol = s.curCol := rfl
@[simp] theorem startTxn_waveBuf : (startTxn t s).waveBuf = s.waveBuf := rfl
@[simp] theorem startTxn_waveT : (startTxn t s).waveT = s.waveT := rfl
@[simp] theorem startTxn_pixelPeriod : (startTxn t s).pixelPeriod = s.pixelPeriod := rfl
@[simp] theorem startTxn_prevRise : (startTxn t s).prevRise = s.prevRise := rfl
@[simp] theorem startTxn_phase : (startTxn t s).phase = s.phase := rfl
@[simp] theorem startTxn_periodTicks : (startTxn t s).periodTicks = s.periodTicks := rfl
@[simp] theorem startTxn_highTicks : (startTxn t s).highTicks = s.highTicks := rfl
@[simp] theorem startTxn_measReady : (startTxn t s).measReady = s.measReady := rfl
@[simp] theorem startTxn_snapPeriod : (startTxn t s).snapPeriod = s.snapPeriod := rfl
@[simp] theorem startTxn_snapHigh : (startTxn t s).snapHigh = s.snapHigh := rfl
@[simp] theorem startTxn_ill : (startTxn t s).ill = s.ill := rfl
@[simp] theorem startTxn_illCause : (startTxn t s).illCause = s.illCause := rfl
@[simp] theorem startTxn_remaining : (startTxn t s).remaining = s.remaining := rfl
@[simp] theorem startTxn_flight : (startTxn t s).flight = some ⟨t, .mode, 0⟩ := rfl
@[simp] theorem startTxn_rdLatch : (startTxn t s).rdLatch = s.rdLatch := rfl
@[simp] theorem startTxn_rsp : (startTxn t s).rsp = s.rsp := rfl
@[simp] theorem startTxn_pins : (startTxn t s).pins = s.pins.drive t s.rdLatch (Config.readDbOut s.draws) := rfl
@[simp] theorem startTxn_disp : (startTxn t s).disp = s.disp := rfl
@[simp] theorem startTxn_tsCounter : (startTxn t s).tsCounter = s.tsCounter := rfl
@[simp] theorem startTxn_draws : (startTxn t s).draws = s.draws := rfl
@[simp] theorem startTxn_inputs : (startTxn t s).inputs = s.inputs := rfl
@[simp] theorem startTxn_trace : (startTxn t s).trace = s.trace := rfl
@[simp] theorem startTxn_rspLog : (startTxn t s).rspLog = s.rspLog := rfl

end startTxn

section offerWord
variable (w : Word) (s : State)

@[simp] theorem offerWord_cfg : (State.offerWord w s).cfg = s.cfg := rfl
@[simp] theorem offerWord_curPage : (State.offerWord w s).curPage = s.curPage := rfl
@[simp] theorem offerWord_curCol : (State.offerWord w s).curCol = s.curCol := rfl
@[simp] theorem offerWord_waveBuf : (State.offerWord w s).waveBuf = s.waveBuf := rfl
@[simp] theorem offerWord_waveT : (State.offerWord w s).waveT = s.waveT := rfl
@[simp] theorem offerWord_pixelPeriod : (State.offerWord w s).pixelPeriod = s.pixelPeriod := rfl
@[simp] theorem offerWord_prevRise : (State.offerWord w s).prevRise = s.prevRise := rfl
@[simp] theorem offerWord_phase : (State.offerWord w s).phase = s.phase := rfl
@[simp] theorem offerWord_periodTicks : (State.offerWord w s).periodTicks = s.periodTicks := rfl
@[simp] theorem offerWord_highTicks : (State.offerWord w s).highTicks = s.highTicks := rfl
@[simp] theorem offerWord_measReady : (State.offerWord w s).measReady = s.measReady := rfl
@[simp] theorem offerWord_snapPeriod : (State.offerWord w s).snapPeriod = s.snapPeriod := rfl
@[simp] theorem offerWord_snapHigh : (State.offerWord w s).snapHigh = s.snapHigh := rfl
@[simp] theorem offerWord_ill : (State.offerWord w s).ill = s.ill := rfl
@[simp] theorem offerWord_illCause : (State.offerWord w s).illCause = s.illCause := rfl
@[simp] theorem offerWord_remaining : (State.offerWord w s).remaining = [] := rfl
@[simp] theorem offerWord_flight : (State.offerWord w s).flight = none := rfl
@[simp] theorem offerWord_rdLatch : (State.offerWord w s).rdLatch = s.rdLatch := rfl
@[simp] theorem offerWord_rsp : (State.offerWord w s).rsp = [] := rfl
@[simp] theorem offerWord_disp : (State.offerWord w s).disp = s.disp := rfl
@[simp] theorem offerWord_tsCounter : (State.offerWord w s).tsCounter = s.tsCounter := rfl
@[simp] theorem offerWord_draws : (State.offerWord w s).draws = s.draws := rfl
@[simp] theorem offerWord_trace : (State.offerWord w s).trace = s.trace := rfl
@[simp] theorem offerWord_rspLog : (State.offerWord w s).rspLog = s.rspLog := rfl

end offerWord

section captureEvent
variable (r : Bool) (T : Word) (s : State)

@[simp] theorem captureEvent_cfg : (captureEvent r T s).cfg = s.cfg := by
  unfold captureEvent; split <;> rfl
@[simp] theorem captureEvent_curPage : (captureEvent r T s).curPage = s.curPage := by
  unfold captureEvent; split <;> rfl
@[simp] theorem captureEvent_curCol : (captureEvent r T s).curCol = s.curCol := by
  unfold captureEvent; split <;> rfl
@[simp] theorem captureEvent_waveBuf : (captureEvent r T s).waveBuf = s.waveBuf := by
  unfold captureEvent; split <;> rfl
@[simp] theorem captureEvent_waveT : (captureEvent r T s).waveT = s.waveT := by
  unfold captureEvent; split <;> rfl
@[simp] theorem captureEvent_pixelPeriod : (captureEvent r T s).pixelPeriod = s.pixelPeriod := by
  unfold captureEvent; split <;> rfl
@[simp] theorem captureEvent_snapPeriod : (captureEvent r T s).snapPeriod = s.snapPeriod := by
  unfold captureEvent; split <;> rfl
@[simp] theorem captureEvent_snapHigh : (captureEvent r T s).snapHigh = s.snapHigh := by
  unfold captureEvent; split <;> rfl
@[simp] theorem captureEvent_ill : (captureEvent r T s).ill = s.ill := by
  unfold captureEvent; split <;> rfl
@[simp] theorem captureEvent_illCause : (captureEvent r T s).illCause = s.illCause := by
  unfold captureEvent; split <;> rfl
@[simp] theorem captureEvent_remaining : (captureEvent r T s).remaining = s.remaining := by
  unfold captureEvent; split <;> rfl
@[simp] theorem captureEvent_flight : (captureEvent r T s).flight = s.flight := by
  unfold captureEvent; split <;> rfl
@[simp] theorem captureEvent_rdLatch : (captureEvent r T s).rdLatch = s.rdLatch := by
  unfold captureEvent; split <;> rfl
@[simp] theorem captureEvent_rsp : (captureEvent r T s).rsp = s.rsp := by
  unfold captureEvent; split <;> rfl
@[simp] theorem captureEvent_pins : (captureEvent r T s).pins = s.pins := by
  unfold captureEvent; split <;> rfl
@[simp] theorem captureEvent_disp : (captureEvent r T s).disp = s.disp := by
  unfold captureEvent; split <;> rfl
@[simp] theorem captureEvent_tsCounter : (captureEvent r T s).tsCounter = s.tsCounter := by
  unfold captureEvent; split <;> rfl
@[simp] theorem captureEvent_draws : (captureEvent r T s).draws = s.draws := by
  unfold captureEvent; split <;> rfl
@[simp] theorem captureEvent_inputs : (captureEvent r T s).inputs = s.inputs := by
  unfold captureEvent; split <;> rfl
@[simp] theorem captureEvent_trace : (captureEvent r T s).trace = s.trace := by
  unfold captureEvent; split <;> rfl
@[simp] theorem captureEvent_rspLog : (captureEvent r T s).rspLog = s.rspLog := by
  unfold captureEvent; split <;> rfl

end captureEvent

section consumeHandoff
variable (s : State)

@[simp] theorem consumeHandoff_cfg : (consumeHandoff s).cfg = s.cfg := by
  unfold consumeHandoff; split <;> rfl
@[simp] theorem consumeHandoff_curPage : (consumeHandoff s).curPage = s.curPage := by
  unfold consumeHandoff; split <;> rfl
@[simp] theorem consumeHandoff_curCol : (consumeHandoff s).curCol = s.curCol := by
  unfold consumeHandoff; split <;> rfl
@[simp] theorem consumeHandoff_waveBuf : (consumeHandoff s).waveBuf = s.waveBuf := by
  unfold consumeHandoff; split <;> rfl
@[simp] theorem consumeHandoff_waveT : (consumeHandoff s).waveT = s.waveT := by
  unfold consumeHandoff; split <;> rfl
@[simp] theorem consumeHandoff_pixelPeriod : (consumeHandoff s).pixelPeriod = s.pixelPeriod := by
  unfold consumeHandoff; split <;> rfl
@[simp] theorem consumeHandoff_prevRise : (consumeHandoff s).prevRise = s.prevRise := by
  unfold consumeHandoff; split <;> rfl
@[simp] theorem consumeHandoff_phase : (consumeHandoff s).phase = s.phase := by
  unfold consumeHandoff; split <;> rfl
@[simp] theorem consumeHandoff_periodTicks : (consumeHandoff s).periodTicks = s.periodTicks := by
  unfold consumeHandoff; split <;> rfl
@[simp] theorem consumeHandoff_highTicks : (consumeHandoff s).highTicks = s.highTicks := by
  unfold consumeHandoff; split <;> rfl
@[simp] theorem consumeHandoff_measReady : (consumeHandoff s).measReady = false := by
  unfold consumeHandoff; split <;> simp_all
@[simp] theorem consumeHandoff_ill : (consumeHandoff s).ill = s.ill := by
  unfold consumeHandoff; split <;> rfl
@[simp] theorem consumeHandoff_illCause : (consumeHandoff s).illCause = s.illCause := by
  unfold consumeHandoff; split <;> rfl
@[simp] theorem consumeHandoff_remaining : (consumeHandoff s).remaining = s.remaining := by
  unfold consumeHandoff; split <;> rfl
@[simp] theorem consumeHandoff_flight : (consumeHandoff s).flight = s.flight := by
  unfold consumeHandoff; split <;> rfl
@[simp] theorem consumeHandoff_rdLatch : (consumeHandoff s).rdLatch = s.rdLatch := by
  unfold consumeHandoff; split <;> rfl
@[simp] theorem consumeHandoff_rsp : (consumeHandoff s).rsp = s.rsp := by
  unfold consumeHandoff; split <;> rfl
@[simp] theorem consumeHandoff_pins : (consumeHandoff s).pins = s.pins := by
  unfold consumeHandoff; split <;> rfl
@[simp] theorem consumeHandoff_disp : (consumeHandoff s).disp = s.disp := by
  unfold consumeHandoff; split <;> rfl
@[simp] theorem consumeHandoff_tsCounter : (consumeHandoff s).tsCounter = s.tsCounter := by
  unfold consumeHandoff; split <;> rfl
@[simp] theorem consumeHandoff_draws : (consumeHandoff s).draws = s.draws := by
  unfold consumeHandoff; split <;> rfl
@[simp] theorem consumeHandoff_inputs : (consumeHandoff s).inputs = s.inputs := by
  unfold consumeHandoff; split <;> rfl
@[simp] theorem consumeHandoff_trace : (consumeHandoff s).trace = s.trace := by
  unfold consumeHandoff; split <;> rfl
@[simp] theorem consumeHandoff_rspLog : (consumeHandoff s).rspLog = s.rspLog := by
  unfold consumeHandoff; split <;> rfl

end consumeHandoff

section consumeStep
variable (s : State)

@[simp] theorem consumeStep_cfg : (consumeStep s).cfg = s.cfg := by
  simp [consumeStep]
@[simp] theorem consumeStep_curPage : (consumeStep s).curPage = s.curPage := by
  simp [consumeStep]
@[simp] theorem consumeStep_curCol : (consumeStep s).curCol = s.curCol := by
  simp [consumeStep]
@[simp] theorem consumeStep_waveBuf : (consumeStep s).waveBuf = s.waveBuf := by
  simp [consumeStep]
@[simp] theorem consumeStep_waveT : (consumeStep s).waveT = s.waveT := by
  simp [consumeStep]
@[simp] theorem consumeStep_pixelPeriod : (consumeStep s).pixelPeriod = s.pixelPeriod := by
  simp [consumeStep]
@[simp] theorem consumeStep_prevRise : (consumeStep s).prevRise = s.prevRise := by
  simp [consumeStep]
@[simp] theorem consumeStep_phase : (consumeStep s).phase = s.phase := by
  simp [consumeStep]
@[simp] theorem consumeStep_periodTicks : (consumeStep s).periodTicks = s.periodTicks := by
  simp [consumeStep]
@[simp] theorem consumeStep_highTicks : (consumeStep s).highTicks = s.highTicks := by
  simp [consumeStep]
@[simp] theorem consumeStep_measReady : (consumeStep s).measReady = false := by
  simp [consumeStep]
@[simp] theorem consumeStep_ill : (consumeStep s).ill = s.ill := by
  simp [consumeStep]
@[simp] theorem consumeStep_illCause : (consumeStep s).illCause = s.illCause := by
  simp [consumeStep]
@[simp] theorem consumeStep_remaining : (consumeStep s).remaining = s.remaining := by
  simp [consumeStep]
@[simp] theorem consumeStep_flight : (consumeStep s).flight = s.flight := by
  simp [consumeStep]
@[simp] theorem consumeStep_rdLatch : (consumeStep s).rdLatch = s.rdLatch := by
  simp [consumeStep]
@[simp] theorem consumeStep_pins : (consumeStep s).pins = s.pins := by
  simp [consumeStep]
@[simp] theorem consumeStep_disp : (consumeStep s).disp = s.disp := by
  simp [consumeStep]
@[simp] theorem consumeStep_tsCounter : (consumeStep s).tsCounter = s.tsCounter := by
  simp [consumeStep]
@[simp] theorem consumeStep_draws : (consumeStep s).draws = s.draws := by
  simp [consumeStep]
@[simp] theorem consumeStep_inputs : (consumeStep s).inputs = s.inputs := by
  simp [consumeStep]
@[simp] theorem consumeStep_trace : (consumeStep s).trace = s.trace := by
  simp [consumeStep]
@[simp] theorem consumeStep_rspLog : (consumeStep s).rspLog = s.rspLog := by
  simp [consumeStep]

end consumeStep

section deliver
variable (s : State)

@[simp] theorem deliver_cfg : (deliver s).cfg = s.cfg := by
  unfold deliver; split <;> rfl
@[simp] theorem deliver_curPage : (deliver s).curPage = s.curPage := by
  unfold deliver; split <;> rfl
@[simp] theorem deliver_curCol : (deliver s).curCol = s.curCol := by
  unfold deliver; split <;> rfl
@[simp] theorem deliver_waveBuf : (deliver s).waveBuf = s.waveBuf := by
  unfold deliver; split <;> rfl
@[simp] theorem deliver_waveT : (deliver s).waveT = s.waveT := by
  unfold deliver; split <;> rfl
@[simp] theorem deliver_pixelPeriod : (deliver s).pixelPeriod = s.pixelPeriod := by
  unfold deliver; split <;> rfl
@[simp] theorem deliver_prevRise : (deliver s).prevRise = s.prevRise := by
  unfold deliver; split <;> rfl
@[simp] theorem deliver_phase : (deliver s).phase = s.phase := by
  unfold deliver; split <;> rfl
@[simp] theorem deliver_periodTicks : (deliver s).periodTicks = s.periodTicks := by
  unfold deliver; split <;> rfl
@[simp] theorem deliver_highTicks : (deliver s).highTicks = s.highTicks := by
  unfold deliver; split <;> rfl
@[simp] theorem deliver_measReady : (deliver s).measReady = s.measReady := by
  unfold deliver; split <;> rfl
@[simp] theorem deliver_snapPeriod : (deliver s).snapPeriod = s.snapPeriod := by
  unfold deliver; split <;> rfl
@[simp] theorem deliver_snapHigh : (deliver s).snapHigh = s.snapHigh := by
  unfold deliver; split <;> rfl
@[simp] theorem deliver_ill : (deliver s).ill = s.ill := by
  unfold deliver; split <;> rfl
@[simp] theorem deliver_illCause : (deliver s).illCause = s.illCause := by
  unfold deliver; split <;> rfl
@[simp] theorem deliver_remaining : (deliver s).remaining = s.remaining := by
  unfold deliver; split <;> rfl
@[simp] theorem deliver_flight : (deliver s).flight = s.flight := by
  unfold deliver; split <;> rfl
@[simp] theorem deliver_rdLatch : (deliver s).rdLatch = s.rdLatch := by
  unfold deliver; split <;> rfl
@[simp] theorem deliver_pins : (deliver s).pins = s.pins := by
  unfold deliver; split <;> rfl
@[simp] theorem deliver_disp : (deliver s).disp = s.disp := by
  unfold deliver; split <;> rfl
@[simp] theorem deliver_tsCounter : (deliver s).tsCounter = s.tsCounter := by
  unfold deliver; split <;> rfl
@[simp] theorem deliver_draws : (deliver s).draws = s.draws := by
  unfold deliver; split <;> rfl
@[simp] theorem deliver_inputs : (deliver s).inputs = s.inputs := by
  unfold deliver; split <;> rfl
@[simp] theorem deliver_trace : (deliver s).trace = s.trace := by
  unfold deliver; split <;> rfl

end deliver

section openSlot
variable (sl : Slot) (s : State)

@[simp] theorem openSlot_cfg : (openSlot sl s).cfg = s.cfg := by
  unfold openSlot; cases sl.edge <;> simp
@[simp] theorem openSlot_curPage : (openSlot sl s).curPage = s.curPage := by
  unfold openSlot; cases sl.edge <;> simp
@[simp] theorem openSlot_curCol : (openSlot sl s).curCol = s.curCol := by
  unfold openSlot; cases sl.edge <;> simp
@[simp] theorem openSlot_waveBuf : (openSlot sl s).waveBuf = s.waveBuf := by
  unfold openSlot; cases sl.edge <;> simp
@[simp] theorem openSlot_waveT : (openSlot sl s).waveT = s.waveT := by
  unfold openSlot; cases sl.edge <;> simp
@[simp] theorem openSlot_pixelPeriod : (openSlot sl s).pixelPeriod = s.pixelPeriod := by
  unfold openSlot; cases sl.edge <;> simp
@[simp] theorem openSlot_snapPeriod : (openSlot sl s).snapPeriod = s.snapPeriod := by
  unfold openSlot; cases sl.edge <;> simp
@[simp] theorem openSlot_snapHigh : (openSlot sl s).snapHigh = s.snapHigh := by
  unfold openSlot; cases sl.edge <;> simp
@[simp] theorem openSlot_ill : (openSlot sl s).ill = s.ill := by
  unfold openSlot; cases sl.edge <;> simp
@[simp] theorem openSlot_illCause : (openSlot sl s).illCause = s.illCause := by
  unfold openSlot; cases sl.edge <;> simp
@[simp] theorem openSlot_remaining : (openSlot sl s).remaining = s.remaining := by
  unfold openSlot; cases sl.edge <;> simp
@[simp] theorem openSlot_flight : (openSlot sl s).flight = s.flight := by
  unfold openSlot; cases sl.edge <;> simp
@[simp] theorem openSlot_rdLatch : (openSlot sl s).rdLatch = s.rdLatch := by
  unfold openSlot; cases sl.edge <;> simp
@[simp] theorem openSlot_rsp : (openSlot sl s).rsp = s.rsp := by
  unfold openSlot; cases sl.edge <;> simp
@[simp] theorem openSlot_pins : (openSlot sl s).pins = { s.pins with rstN := true } := by
  unfold openSlot; cases sl.edge <;> simp
@[simp] theorem openSlot_disp : (openSlot sl s).disp = s.disp := by
  unfold openSlot; cases sl.edge <;> simp
@[simp] theorem openSlot_tsCounter : (openSlot sl s).tsCounter = advanceCounter s.cfg sl.ticks s.tsCounter := by
  unfold openSlot; cases sl.edge <;> simp
@[simp] theorem openSlot_draws : (openSlot sl s).draws = s.draws := by
  unfold openSlot; cases sl.edge <;> simp
@[simp] theorem openSlot_inputs : (openSlot sl s).inputs = s.inputs := by
  unfold openSlot; cases sl.edge <;> simp
@[simp] theorem openSlot_trace : (openSlot sl s).trace = s.trace := by
  unfold openSlot; cases sl.edge <;> simp
@[simp] theorem openSlot_rspLog : (openSlot sl s).rspLog = s.rspLog := by
  unfold openSlot; cases sl.edge <;> simp

end openSlot

section busCmd
variable (k : Option Chip) (b : Byte) (s : State)

@[simp] theorem busCmd_cfg : (busCmd k b s).cfg = s.cfg := by
  unfold busCmd; split <;> rfl
@[simp] theorem busCmd_curPage : (busCmd k b s).curPage = s.curPage := by
  unfold busCmd; split <;> rfl
@[simp] theorem busCmd_curCol : (busCmd k b s).curCol = s.curCol := by
  unfold busCmd; split <;> rfl
@[simp] theorem busCmd_waveBuf : (busCmd k b s).waveBuf = s.waveBuf := by
  unfold busCmd; split <;> rfl
@[simp] theorem busCmd_waveT : (busCmd k b s).waveT = s.waveT := by
  unfold busCmd; split <;> rfl
@[simp] theorem busCmd_pixelPeriod : (busCmd k b s).pixelPeriod = s.pixelPeriod := by
  unfold busCmd; split <;> rfl
@[simp] theorem busCmd_prevRise : (busCmd k b s).prevRise = s.prevRise := by
  unfold busCmd; split <;> rfl
@[simp] theorem busCmd_phase : (busCmd k b s).phase = s.phase := by
  unfold busCmd; split <;> rfl
@[simp] theorem busCmd_periodTicks : (busCmd k b s).periodTicks = s.periodTicks := by
  unfold busCmd; split <;> rfl
@[simp] theorem busCmd_highTicks : (busCmd k b s).highTicks = s.highTicks := by
  unfold busCmd; split <;> rfl
@[simp] theorem busCmd_measReady : (busCmd k b s).measReady = s.measReady := by
  unfold busCmd; split <;> rfl
@[simp] theorem busCmd_snapPeriod : (busCmd k b s).snapPeriod = s.snapPeriod := by
  unfold busCmd; split <;> rfl
@[simp] theorem busCmd_snapHigh : (busCmd k b s).snapHigh = s.snapHigh := by
  unfold busCmd; split <;> rfl
@[simp] theorem busCmd_ill : (busCmd k b s).ill = s.ill := by
  unfold busCmd; split <;> rfl
@[simp] theorem busCmd_illCause : (busCmd k b s).illCause = s.illCause := by
  unfold busCmd; split <;> rfl
@[simp] theorem busCmd_remaining : (busCmd k b s).remaining = s.remaining := by
  unfold busCmd; split <;> rfl
@[simp] theorem busCmd_flight : (busCmd k b s).flight = s.flight := by
  unfold busCmd; split <;> rfl
@[simp] theorem busCmd_rdLatch : (busCmd k b s).rdLatch = s.rdLatch := by
  unfold busCmd; split <;> rfl
@[simp] theorem busCmd_rsp : (busCmd k b s).rsp = s.rsp := by
  unfold busCmd; split <;> rfl
@[simp] theorem busCmd_pins : (busCmd k b s).pins = s.pins := by
  unfold busCmd; split <;> rfl
@[simp] theorem busCmd_tsCounter : (busCmd k b s).tsCounter = s.tsCounter := by
  unfold busCmd; split <;> rfl
@[simp] theorem busCmd_draws : (busCmd k b s).draws = s.draws := by
  unfold busCmd; split <;> rfl
@[simp] theorem busCmd_inputs : (busCmd k b s).inputs = s.inputs := by
  unfold busCmd; split <;> rfl
@[simp] theorem busCmd_trace : (busCmd k b s).trace = .C k b :: s.trace := by
  unfold busCmd; split <;> rfl
@[simp] theorem busCmd_rspLog : (busCmd k b s).rspLog = s.rspLog := by
  unfold busCmd; split <;> rfl

end busCmd

section busWrData
variable (k : Option Chip) (b : Byte) (s : State)

@[simp] theorem busWrData_cfg : (busWrData k b s).cfg = s.cfg := by
  unfold busWrData; split <;> rfl
@[simp] theorem busWrData_curPage : (busWrData k b s).curPage = s.curPage := by
  unfold busWrData; split <;> rfl
@[simp] theorem busWrData_curCol : (busWrData k b s).curCol = s.curCol := by
  unfold busWrData; split <;> rfl
@[simp] theorem busWrData_waveBuf : (busWrData k b s).waveBuf = s.waveBuf := by
  unfold busWrData; split <;> rfl
@[simp] theorem busWrData_waveT : (busWrData k b s).waveT = s.waveT := by
  unfold busWrData; split <;> rfl
@[simp] theorem busWrData_pixelPeriod : (busWrData k b s).pixelPeriod = s.pixelPeriod := by
  unfold busWrData; split <;> rfl
@[simp] theorem busWrData_prevRise : (busWrData k b s).prevRise = s.prevRise := by
  unfold busWrData; split <;> rfl
@[simp] theorem busWrData_phase : (busWrData k b s).phase = s.phase := by
  unfold busWrData; split <;> rfl
@[simp] theorem busWrData_periodTicks : (busWrData k b s).periodTicks = s.periodTicks := by
  unfold busWrData; split <;> rfl
@[simp] theorem busWrData_highTicks : (busWrData k b s).highTicks = s.highTicks := by
  unfold busWrData; split <;> rfl
@[simp] theorem busWrData_measReady : (busWrData k b s).measReady = s.measReady := by
  unfold busWrData; split <;> rfl
@[simp] theorem busWrData_snapPeriod : (busWrData k b s).snapPeriod = s.snapPeriod := by
  unfold busWrData; split <;> rfl
@[simp] theorem busWrData_snapHigh : (busWrData k b s).snapHigh = s.snapHigh := by
  unfold busWrData; split <;> rfl
@[simp] theorem busWrData_ill : (busWrData k b s).ill = s.ill := by
  unfold busWrData; split <;> rfl
@[simp] theorem busWrData_illCause : (busWrData k b s).illCause = s.illCause := by
  unfold busWrData; split <;> rfl
@[simp] theorem busWrData_remaining : (busWrData k b s).remaining = s.remaining := by
  unfold busWrData; split <;> rfl
@[simp] theorem busWrData_flight : (busWrData k b s).flight = s.flight := by
  unfold busWrData; split <;> rfl
@[simp] theorem busWrData_rdLatch : (busWrData k b s).rdLatch = s.rdLatch := by
  unfold busWrData; split <;> rfl
@[simp] theorem busWrData_rsp : (busWrData k b s).rsp = s.rsp := by
  unfold busWrData; split <;> rfl
@[simp] theorem busWrData_pins : (busWrData k b s).pins = s.pins := by
  unfold busWrData; split <;> rfl
@[simp] theorem busWrData_tsCounter : (busWrData k b s).tsCounter = s.tsCounter := by
  unfold busWrData; split <;> rfl
@[simp] theorem busWrData_draws : (busWrData k b s).draws = s.draws := by
  unfold busWrData; split <;> rfl
@[simp] theorem busWrData_inputs : (busWrData k b s).inputs = s.inputs := by
  unfold busWrData; split <;> rfl
@[simp] theorem busWrData_trace : (busWrData k b s).trace = .D k b :: s.trace := by
  unfold busWrData; split <;> rfl
@[simp] theorem busWrData_rspLog : (busWrData k b s).rspLog = s.rspLog := by
  unfold busWrData; split <;> rfl

end busWrData

section busRdData
variable (k : Option Chip) (s : State)

@[simp] theorem busRdData_cfg : (busRdData k s).cfg = s.cfg := by
  unfold busRdData; split <;> rfl
@[simp] theorem busRdData_curPage : (busRdData k s).curPage = s.curPage := by
  unfold busRdData; split <;> rfl
@[simp] theorem busRdData_curCol : (busRdData k s).curCol = s.curCol := by
  unfold busRdData; split <;> rfl
@[simp] theorem busRdData_waveBuf : (busRdData k s).waveBuf = s.waveBuf := by
  unfold busRdData; split <;> rfl
@[simp] theorem busRdData_waveT : (busRdData k s).waveT = s.waveT := by
  unfold busRdData; split <;> rfl
@[simp] theorem busRdData_pixelPeriod : (busRdData k s).pixelPeriod = s.pixelPeriod := by
  unfold busRdData; split <;> rfl
@[simp] theorem busRdData_prevRise : (busRdData k s).prevRise = s.prevRise := by
  unfold busRdData; split <;> rfl
@[simp] theorem busRdData_phase : (busRdData k s).phase = s.phase := by
  unfold busRdData; split <;> rfl
@[simp] theorem busRdData_periodTicks : (busRdData k s).periodTicks = s.periodTicks := by
  unfold busRdData; split <;> rfl
@[simp] theorem busRdData_highTicks : (busRdData k s).highTicks = s.highTicks := by
  unfold busRdData; split <;> rfl
@[simp] theorem busRdData_measReady : (busRdData k s).measReady = s.measReady := by
  unfold busRdData; split <;> rfl
@[simp] theorem busRdData_snapPeriod : (busRdData k s).snapPeriod = s.snapPeriod := by
  unfold busRdData; split <;> rfl
@[simp] theorem busRdData_snapHigh : (busRdData k s).snapHigh = s.snapHigh := by
  unfold busRdData; split <;> rfl
@[simp] theorem busRdData_ill : (busRdData k s).ill = s.ill := by
  unfold busRdData; split <;> rfl
@[simp] theorem busRdData_illCause : (busRdData k s).illCause = s.illCause := by
  unfold busRdData; split <;> rfl
@[simp] theorem busRdData_remaining : (busRdData k s).remaining = s.remaining := by
  unfold busRdData; split <;> rfl
@[simp] theorem busRdData_flight : (busRdData k s).flight = s.flight := by
  unfold busRdData; split <;> rfl
@[simp] theorem busRdData_rdLatch : (busRdData k s).rdLatch = s.rdLatch := by
  unfold busRdData; split <;> rfl
@[simp] theorem busRdData_rsp : (busRdData k s).rsp = s.rsp := by
  unfold busRdData; split <;> rfl
@[simp] theorem busRdData_pins : (busRdData k s).pins = s.pins := by
  unfold busRdData; split <;> rfl
@[simp] theorem busRdData_tsCounter : (busRdData k s).tsCounter = s.tsCounter := by
  unfold busRdData; split <;> rfl
@[simp] theorem busRdData_inputs : (busRdData k s).inputs = s.inputs := by
  unfold busRdData; split <;> rfl
@[simp] theorem busRdData_trace : (busRdData k s).trace = .R k (readByteOf k s) :: s.trace := by
  unfold busRdData; split <;> rfl
@[simp] theorem busRdData_rspLog : (busRdData k s).rspLog = s.rspLog := by
  unfold busRdData; split <;> rfl

end busRdData

section useRead
variable (u : ReadUse) (v : Byte) (s : State)

@[simp] theorem useRead_cfg : (useRead u v s).cfg = s.cfg := by
  cases u <;> rfl
@[simp] theorem useRead_curPage : (useRead u v s).curPage = s.curPage := by
  cases u <;> rfl
@[simp] theorem useRead_curCol : (useRead u v s).curCol = s.curCol := by
  cases u <;> rfl
@[simp] theorem useRead_waveBuf : (useRead u v s).waveBuf = s.waveBuf := by
  cases u <;> rfl
@[simp] theorem useRead_waveT : (useRead u v s).waveT = s.waveT := by
  cases u <;> rfl
@[simp] theorem useRead_pixelPeriod : (useRead u v s).pixelPeriod = s.pixelPeriod := by
  cases u <;> rfl
@[simp] theorem useRead_prevRise : (useRead u v s).prevRise = s.prevRise := by
  cases u <;> rfl
@[simp] theorem useRead_phase : (useRead u v s).phase = s.phase := by
  cases u <;> rfl
@[simp] theorem useRead_periodTicks : (useRead u v s).periodTicks = s.periodTicks := by
  cases u <;> rfl
@[simp] theorem useRead_highTicks : (useRead u v s).highTicks = s.highTicks := by
  cases u <;> rfl
@[simp] theorem useRead_measReady : (useRead u v s).measReady = s.measReady := by
  cases u <;> rfl
@[simp] theorem useRead_snapPeriod : (useRead u v s).snapPeriod = s.snapPeriod := by
  cases u <;> rfl
@[simp] theorem useRead_snapHigh : (useRead u v s).snapHigh = s.snapHigh := by
  cases u <;> rfl
@[simp] theorem useRead_ill : (useRead u v s).ill = s.ill := by
  cases u <;> rfl
@[simp] theorem useRead_illCause : (useRead u v s).illCause = s.illCause := by
  cases u <;> rfl
@[simp] theorem useRead_remaining : (useRead u v s).remaining = s.remaining := by
  cases u <;> rfl
@[simp] theorem useRead_flight : (useRead u v s).flight = s.flight := by
  cases u <;> rfl
@[simp] theorem useRead_pins : (useRead u v s).pins = s.pins := by
  cases u <;> rfl
@[simp] theorem useRead_disp : (useRead u v s).disp = s.disp := by
  cases u <;> rfl
@[simp] theorem useRead_tsCounter : (useRead u v s).tsCounter = s.tsCounter := by
  cases u <;> rfl
@[simp] theorem useRead_draws : (useRead u v s).draws = s.draws := by
  cases u <;> rfl
@[simp] theorem useRead_inputs : (useRead u v s).inputs = s.inputs := by
  cases u <;> rfl
@[simp] theorem useRead_trace : (useRead u v s).trace = s.trace := by
  cases u <;> rfl
@[simp] theorem useRead_rspLog : (useRead u v s).rspLog = s.rspLog := by
  cases u <;> rfl

end useRead

section busEffect
variable (t : Txn) (s : State)

@[simp] theorem busEffect_cfg : (busEffect t s).cfg = s.cfg := by
  cases t <;> simp [busEffect]
@[simp] theorem busEffect_curPage : (busEffect t s).curPage = s.curPage := by
  cases t <;> simp [busEffect]
@[simp] theorem busEffect_curCol : (busEffect t s).curCol = s.curCol := by
  cases t <;> simp [busEffect]
@[simp] theorem busEffect_waveBuf : (busEffect t s).waveBuf = s.waveBuf := by
  cases t <;> simp [busEffect]
@[simp] theorem busEffect_waveT : (busEffect t s).waveT = s.waveT := by
  cases t <;> simp [busEffect]
@[simp] theorem busEffect_pixelPeriod : (busEffect t s).pixelPeriod = s.pixelPeriod := by
  cases t <;> simp [busEffect]
@[simp] theorem busEffect_prevRise : (busEffect t s).prevRise = s.prevRise := by
  cases t <;> simp [busEffect]
@[simp] theorem busEffect_phase : (busEffect t s).phase = s.phase := by
  cases t <;> simp [busEffect]
@[simp] theorem busEffect_periodTicks : (busEffect t s).periodTicks = s.periodTicks := by
  cases t <;> simp [busEffect]
@[simp] theorem busEffect_highTicks : (busEffect t s).highTicks = s.highTicks := by
  cases t <;> simp [busEffect]
@[simp] theorem busEffect_measReady : (busEffect t s).measReady = s.measReady := by
  cases t <;> simp [busEffect]
@[simp] theorem busEffect_snapPeriod : (busEffect t s).snapPeriod = s.snapPeriod := by
  cases t <;> simp [busEffect]
@[simp] theorem busEffect_snapHigh : (busEffect t s).snapHigh = s.snapHigh := by
  cases t <;> simp [busEffect]
@[simp] theorem busEffect_ill : (busEffect t s).ill = s.ill := by
  cases t <;> simp [busEffect]
@[simp] theorem busEffect_illCause : (busEffect t s).illCause = s.illCause := by
  cases t <;> simp [busEffect]
@[simp] theorem busEffect_remaining : (busEffect t s).remaining = s.remaining := by
  cases t <;> simp [busEffect]
@[simp] theorem busEffect_flight : (busEffect t s).flight = s.flight := by
  cases t <;> simp [busEffect]
@[simp] theorem busEffect_pins : (busEffect t s).pins = s.pins := by
  cases t <;> simp [busEffect]
@[simp] theorem busEffect_tsCounter : (busEffect t s).tsCounter = s.tsCounter := by
  cases t <;> simp [busEffect]
@[simp] theorem busEffect_inputs : (busEffect t s).inputs = s.inputs := by
  cases t <;> simp [busEffect]
@[simp] theorem busEffect_rspLog : (busEffect t s).rspLog = s.rspLog := by
  cases t <;> simp [busEffect]

end busEffect

section transact
variable (t : Txn) (s : State)

@[simp] theorem transact_cfg : (transact t s).cfg = s.cfg := by
  simp [transact]
@[simp] theorem transact_curPage : (transact t s).curPage = s.curPage := by
  simp [transact]
@[simp] theorem transact_curCol : (transact t s).curCol = s.curCol := by
  simp [transact]
@[simp] theorem transact_waveBuf : (transact t s).waveBuf = s.waveBuf := by
  simp [transact]
@[simp] theorem transact_waveT : (transact t s).waveT = s.waveT := by
  simp [transact]
@[simp] theorem transact_pixelPeriod : (transact t s).pixelPeriod = s.pixelPeriod := by
  simp [transact]
@[simp] theorem transact_prevRise : (transact t s).prevRise = s.prevRise := by
  simp [transact]
@[simp] theorem transact_phase : (transact t s).phase = s.phase := by
  simp [transact]
@[simp] theorem transact_periodTicks : (transact t s).periodTicks = s.periodTicks := by
  simp [transact]
@[simp] theorem transact_highTicks : (transact t s).highTicks = s.highTicks := by
  simp [transact]
@[simp] theorem transact_measReady : (transact t s).measReady = s.measReady := by
  simp [transact]
@[simp] theorem transact_snapPeriod : (transact t s).snapPeriod = s.snapPeriod := by
  simp [transact]
@[simp] theorem transact_snapHigh : (transact t s).snapHigh = s.snapHigh := by
  simp [transact]
@[simp] theorem transact_ill : (transact t s).ill = s.ill := by
  simp [transact]
@[simp] theorem transact_illCause : (transact t s).illCause = s.illCause := by
  simp [transact]
@[simp] theorem transact_remaining : (transact t s).remaining = s.remaining := by
  simp [transact]
@[simp] theorem transact_flight : (transact t s).flight = s.flight := by
  simp [transact]
@[simp] theorem transact_tsCounter : (transact t s).tsCounter = s.tsCounter := by
  simp [transact]
@[simp] theorem transact_inputs : (transact t s).inputs = s.inputs := by
  simp [transact]
@[simp] theorem transact_rspLog : (transact t s).rspLog = s.rspLog := by
  simp [transact]

end transact

end Sys2Proof.Machine
end

