-- ==== Sys2Proof/Laws/Run.lean ====
section
/-! SUPPORT. Laws of running a list of steps, and what the shared operations can do, said once: `runOp_frame`,
`run_outside`, `run_registers`, `run_setAddress`, `step_cases`. -/

namespace Sys2Proof.Machine

@[simp] theorem run_nil (s : State) : run [] s = s := rfl

@[simp] theorem run_cons (op : MicroOp) (ops : List MicroOp) (s : State) :
    run (op :: ops) s = run ops (runOp op s) := rfl

theorem run_append (as bs : List MicroOp) (s : State) : run (as ++ bs) s = run bs (run as s) := by
  induction as generalizing s with
  | nil => rfl
  | cons a as ih => simp [ih]

/-- What no step of the sequencer changes: configuration, counter, schedule, accepted responses, and the
sequencer's own list of steps. -/
theorem runOp_frame (op : MicroOp) (s : State) :
    (runOp op s).cfg = s.cfg ∧ (runOp op s).tsCounter = s.tsCounter ∧ (runOp op s).inputs = s.inputs ∧
      (runOp op s).rspLog = s.rspLog ∧ (runOp op s).remaining = s.remaining ∧ (runOp op s).flight = s.flight ∧
      (runOp op s).prevRise = s.prevRise ∧ (runOp op s).phase = s.phase ∧
      (runOp op s).periodTicks = s.periodTicks ∧ (runOp op s).highTicks = s.highTicks := by
  cases op <;> simp [runOp]

theorem run_frame (ops : List MicroOp) (s : State) :
    (run ops s).cfg = s.cfg ∧ (run ops s).tsCounter = s.tsCounter ∧ (run ops s).inputs = s.inputs ∧
      (run ops s).rspLog = s.rspLog ∧ (run ops s).remaining = s.remaining ∧ (run ops s).flight = s.flight ∧
      (run ops s).prevRise = s.prevRise ∧ (run ops s).phase = s.phase ∧
      (run ops s).periodTicks = s.periodTicks ∧ (run ops s).highTicks = s.highTicks := by
  induction ops generalizing s with
  | nil => simp
  | cons op ops ih =>
    obtain ⟨a, b, c, d, e, f, g, h, i, j⟩ := runOp_frame op s
    obtain ⟨a', b', c', d', e', f', g', h', i', j'⟩ := ih (runOp op s)
    simp_all

@[simp] theorem run_cfg (ops : List MicroOp) (s : State) : (run ops s).cfg = s.cfg := (run_frame ops s).1

/-- A step that is a bus transaction. -/
def MicroOp.isBus : MicroOp → Bool
  | .bus _ => true
  | _ => false

/-- Bus transactions change no register of 10_state.md sections 3 to 6, and nothing outside the block but the
display (R100). -/
theorem run_registers {ops : List MicroOp} (h : ops.all MicroOp.isBus = true) (s : State) :
    s.sameRegisters (run ops s) := by
  induction ops generalizing s with
  | nil =>
    simp [State.sameRegisters, State.sameCursor, State.sameWave, State.sameCapture, State.sameSnapshot,
      State.sameStatus, State.sameOutside, State.sameSequencer]
  | cons op ops ih =>
    simp only [List.all_cons, Bool.and_eq_true] at h
    cases op with
    | bus t =>
      have := ih h.2 (transact t s)
      simpa [State.sameRegisters, State.sameCursor, State.sameWave, State.sameCapture, State.sameSnapshot,
        State.sameStatus, State.sameOutside, State.sameSequencer, runOp] using this
    | _ => simp [MicroOp.isBus] at h

@[simp] theorem isBus_setAddressOps (cfg : Config) (p : BitVec 3) (c : BitVec 7) :
    (setAddressOps cfg p c).all MicroOp.isBus = true := rfl

@[simp] theorem isBus_addrWriteOps (cfg : Config) (p : BitVec 3) (c : BitVec 7) (b : Byte) :
    (addrWriteOps cfg p c b).all MicroOp.isBus = true := rfl

@[simp] theorem isBus_rmwOrOps (cfg : Config) (r : Nat) (c : BitVec 7) :
    (rmwOrOps cfg r c).all MicroOp.isBus = true := by
  simp [rmwOrOps, addrReadOps, readDataOps, setAddressOps]
  split <;> simp [MicroOp.isBus]

/-! ### Transactions on a conforming display (R61) -/

/-- A page-select byte names the page it was made from (R56). -/
theorem pageByte_select : ∀ base : Byte, base &&& 0x07 = 0 → ∀ p : BitVec 3,
    (base ||| p.zeroExtend 8) &&& 0xF8 = base ∧ (base ||| p.zeroExtend 8).extractLsb' 0 3 = p := by
  decide +kernel

/-- A column-select byte names the column it was made from (R56). -/
theorem colByte_select : ∀ base : Byte, base &&& 0x3F = 0 → ∀ c : BitVec 6,
    (base ||| c.zeroExtend 8) &&& 0xC0 = base ∧ (base ||| c.zeroExtend 8).extractLsb' 0 6 = c := by
  decide +kernel

/-- A column-select byte is no page-select byte, if the bases are distinct (R62). -/
theorem colByte_not_page {page base : Byte} (hb : base &&& 0x3F = 0) (hd : page &&& 0xC0 ≠ base) (c : BitVec 6) :
    (base ||| c.zeroExtend 8) &&& 0xF8 ≠ page := by
  intro h
  have h1 : ((base ||| c.zeroExtend 8) &&& 0xF8) &&& 0xC0 = (base ||| c.zeroExtend 8) &&& 0xC0 := by
    rw [BitVec.and_assoc]; rfl
  rw [h, (colByte_select base hb c).1] at h1
  exact hd h1

theorem Config.ok_bases {c : Config} (h : c.ok = true) : c.cmdPageBase &&& 0x07 = 0 ∧ c.cmdColBase &&& 0x3F = 0 := by
  simp only [Config.ok, Config.rangesOk, Bool.and_eq_true, decide_eq_true_eq] at h
  exact ⟨h.1.1.1.2, h.1.1.2⟩

@[simp] theorem onCmd_pageByte {cfg : Config} (hb : cfg.cmdPageBase &&& 0x07 = 0) (k : Chip) (p : BitVec 3) (d : Display) :
    d.onCmd cfg k (pageByte cfg p) = d.setCtl k { d.ctl k with page := p } := by
  simp only [Display.onCmd, pageByte, (pageByte_select _ hb p).1, (pageByte_select _ hb p).2, if_true]

theorem onCmd_colByte {cfg : Config} (hb : cfg.cmdColBase &&& 0x3F = 0) (hd : cfg.cmdPageBase &&& 0xC0 ≠ cfg.cmdColBase)
    (k : Chip) (c : BitVec 6) (d : Display) :
    d.onCmd cfg k (colByte cfg c) = d.setCtl k { d.ctl k with col := c } := by
  simp only [Display.onCmd, colByte, if_neg (colByte_not_page hb hd c), (colByte_select _ hb c).1,
    (colByte_select _ hb c).2, if_true]

@[simp] theorem transact_cmd_disp (s : State) (k : Chip) (b : Byte) (h : s.cfg.display = .conforming) :
    (transact (.cmd (some k) b) s).disp = s.disp.onCmd s.cfg k b := by
  simp [transact, busEffect, busCmd, h]

@[simp] theorem transact_write_disp (s : State) (k : Chip) (b : Byte) (h : s.cfg.display = .conforming) :
    (transact (.write (some k) b) s).disp = s.disp.onWrite s.cfg k b := by
  simp [transact, busEffect, busWrData, h]

@[simp] theorem transact_writeOr_disp (s : State) (k : Chip) (m : Byte) (h : s.cfg.display = .conforming) :
    (transact (.writeOr (some k) m) s).disp = s.disp.onWrite s.cfg k (s.rdLatch ||| m) := by
  simp [transact, busEffect, busWrData, h]

@[simp] theorem transact_read_disp (s : State) (k : Chip) (u : ReadUse) (h : s.cfg.display = .conforming) :
    (transact (.read (some k) u) s).disp = s.disp.advance s.cfg k := by
  cases u <;> simp [transact, busEffect, busRdData, useRead, h]

@[simp] theorem transact_read_latch (s : State) (k : Chip) (h : s.cfg.display = .conforming) :
    (transact (.read (some k) .latch) s).rdLatch = s.ramByte (s.disp.pointer k) := by
  simp [transact, busEffect, busRdData, useRead, readByteOf, h]

/-- Every transaction adds one record to the bus trace (R53). -/
theorem transact_trace_length (t : Txn) (s : State) : (transact t s).trace.length = s.trace.length + 1 := by
  cases t with
  | read k u => cases u <;> simp [transact, busEffect, useRead]
  | _ => simp [transact, busEffect]

/-- A command or data write leaves the read latch and the responses (R53). -/
theorem transact_cmd_latch (s : State) (k : Option Chip) (b : Byte) :
    (transact (.cmd k b) s).rdLatch = s.rdLatch ∧ (transact (.cmd k b) s).rsp = s.rsp := by
  simp [transact, busEffect]

/-- `SetAddress` points the resolved chip at the address and touches nothing else of the display (R56, R104). -/
theorem run_setAddress_disp {s : State} (hc : s.cfg.ok = true) (hd : s.cfg.basesDistinct = true)
    (hk : s.cfg.display = .conforming) (p : BitVec 3) (c : BitVec 7) :
    (run (setAddressOps s.cfg p c) s).disp = s.disp.setCtl (chipOf c) ⟨p, localOf c⟩ := by
  have hb := Config.ok_bases hc
  have hd' : s.cfg.cmdPageBase &&& 0xC0 ≠ s.cfg.cmdColBase := by
    simpa [Config.basesDistinct] using hd
  simp [setAddressOps, runOp, hk, onCmd_pageByte hb.1, onCmd_colByte hb.2 hd']

/-- `SetAddress` issues the page-select, then the column-select (R56). -/
theorem run_setAddress_trace (s : State) (p : BitVec 3) (c : BitVec 7) :
    (run (setAddressOps s.cfg p c) s).trace =
      .C (some (chipOf c)) (colByte s.cfg (localOf c)) :: .C (some (chipOf c)) (pageByte s.cfg p) :: s.trace := by
  simp [setAddressOps, runOp, transact, busEffect]

@[simp] theorem run_setAddress_latch (s : State) (p : BitVec 3) (c : BitVec 7) :
    (run (setAddressOps s.cfg p c) s).rdLatch = s.rdLatch ∧ (run (setAddressOps s.cfg p c) s).rsp = s.rsp := by
  simp [setAddressOps, runOp, transact, busEffect]

/-! ### What a step can do -/

/-- An accepted word answers a next state: the illegal command, the command run to its end, or the command
begun. -/
theorem acceptWord_cases (w : Word) (pace : Pace) (s : State) :
    (∃ c, decode w = .error c ∧ acceptWord w pace s = .next (illegalCommand c s)) ∨
      (∃ i, decode w = .ok i ∧ pace = .command ∧ acceptWord w pace s = exec i s) ∨
      (∃ i, decode w = .ok i ∧ pace ≠ .command ∧ acceptWord w pace s = .next (begin i s)) := by
  unfold acceptWord
  cases hd : decode w with
  | error c => exact .inl ⟨c, rfl, rfl⟩
  | ok i => cases pace <;> simp

/-- A command run to its end answers the state its program leads to. -/
theorem exec_eq_run (i : Instr) (s : State) : exec i s = .next (run (programOf i s) s) := by
  cases i <;> rfl

/-- What one step can do, said once: reset; an illegal word; a command run to its end; a command begun; an idle
slot; a response delivered; progress. -/
theorem step_cases {s t : State} (h : step s = .next t) :
    s.cfg.ok = true ∧
      ((s.nextSlot.rst = true ∧ t = blockReset s.nextSlot s.popSlot) ∨
        (s.nextSlot.rst = false ∧
          let u := openSlot s.nextSlot s.popSlot
          ((u.cmdReady = true ∧ ∃ w c, s.nextSlot.cmd = some w ∧ decode w = .error c ∧ t = illegalCommand c u) ∨
            (u.cmdReady = true ∧ ∃ w i, s.nextSlot.cmd = some w ∧ decode w = .ok i ∧
              s.nextSlot.pace = .command ∧ t = run (programOf i u) u) ∨
            (u.cmdReady = true ∧ ∃ w i, s.nextSlot.cmd = some w ∧ decode w = .ok i ∧
              s.nextSlot.pace ≠ .command ∧ t = begin i u) ∨
            (u.cmdReady = true ∧ s.nextSlot.cmd = none ∧ t = u) ∨
            (u.cmdReady = false ∧ u.rspValid = true ∧ t = if s.nextSlot.rspReady then deliver u else u) ∨
            (u.cmdReady = false ∧ u.rspValid = false ∧ t = progress s.nextSlot.pace u)))) := by
  unfold step at h
  split at h
  case isFalse => cases h
  case isTrue hok =>
    refine ⟨hok, ?_⟩
    unfold playSlot at h
    split at h
    case isTrue hr => exact .inl ⟨hr, by cases h; rfl⟩
    case isFalse hr =>
      refine .inr ⟨by simpa using hr, ?_⟩
      set u := openSlot s.nextSlot s.popSlot with hu
      dsimp only at h ⊢
      split at h
      case isTrue hready =>
        split at h
        next w hw =>
          rcases acceptWord_cases w s.nextSlot.pace u with ⟨c, hd, he⟩ | ⟨i, hd, hp, he⟩ | ⟨i, hd, hp, he⟩
          · rw [he] at h; cases h; exact .inl ⟨hready, w, c, hw, hd, rfl⟩
          · rw [he, exec_eq_run] at h; cases h; exact .inr (.inl ⟨hready, w, i, hw, hd, hp, rfl⟩)
          · rw [he] at h; cases h; exact .inr (.inr (.inl ⟨hready, w, i, hw, hd, hp, rfl⟩))
        next hw => exact .inr (.inr (.inr (.inl ⟨hready, hw, (Host.Outcome.next.inj h).symm⟩)))
      case isFalse hready =>
        have hready' : u.cmdReady = false := by simpa using hready
        split at h
        case isTrue hv => cases h; exact .inr (.inr (.inr (.inr (.inl ⟨hready', hv, rfl⟩))))
        case isFalse hv =>
          cases h; exact .inr (.inr (.inr (.inr (.inr ⟨hready', by simpa using hv, rfl⟩))))

end Sys2Proof.Machine
end

