-- ==== Sys2Proof/Tests/Slice0.lean ====
section
/-! SUPPORT. The model's own tests: expected results from spec/95_test_vectors.md and from the rules by hand. Then, for
every obligation with hypotheses, a state and operands that meet all of them. -/

namespace Sys2Proof.Tests

open Sys2Proof.Machine

/-! ### WellFormed: each check refuses an ill-formed term -/

theorem test_wf_waveConfig_zero : Instr.wf (.waveConfig 0) = false := by decide
theorem test_wf_waveStep_over : Instr.wf (.waveStep 101) = false := by decide
theorem test_wf_readReg_over : Instr.wf (.readReg 0x0D) = false := by decide
theorem test_wf_limits : (Instr.waveConfig 1).wf && (Instr.waveStep 100).wf && (Instr.readReg 0x0C).wf = true := by
  decide

/-! ### Decode: one word per constructor, written out from its format (R82-R88) -/

theorem test_decode_nop : decode 0b00000000000000000000000000000000 = .ok .nop := by decide
-- OP 0001, 00, CH 01, sixteen zeros, DATA 00111111
theorem test_decode_sendCmd : decode 0b00010001000000000000000000111111 = .ok (.sendCmd 1 0x3F) := by decide
-- OP 0010, 00, CH 10, sixteen zeros, DATA 10101010
theorem test_decode_writeByte : decode 0b00100010000000000000000010101010 = .ok (.writeByte 2 0xAA) := by decide
-- OP 0011, 00, CH 11, twenty-four zeros
theorem test_decode_readByte : decode 0b00110011000000000000000000000000 = .ok (.readByte 3) := by decide
-- OP 0100, seventeen zeros, PG 011, 0, COL 1100100
theorem test_decode_setAddress : decode 0b01000000000000000000001101100100 = .ok (.setAddress 3 100) := by decide
-- OP 0101, seventeen zeros, PG 111, 0, COL 1111111
theorem test_decode_gotoxy : decode 0b01010000000000000000011101111111 = .ok (.gotoxy 7 127) := by decide
-- OP 0110, twenty zeros, CODE 01000001
theorem test_decode_displayChar : decode 0b01100000000000000000000001000001 = .ok (.displayChar 65) := by decide
-- OP 0111, twenty-one zeros, PER 1111111
theorem test_decode_waveConfig : decode 0b01110000000000000000000001111111 = .ok (.waveConfig 127) := by decide
-- OP 1000, nineteen zeros, M 0, 0, DUTY 1100100
theorem test_decode_waveStep : decode 0b10000000000000000000000001100100 = .ok (.waveStep 100) := by decide
-- OP 1000, nineteen zeros, M 1, 0, seven zeros
theorem test_decode_waveStepM : decode 0b10000000000000000000000100000000 = .ok .waveStepM := by decide
theorem test_decode_consume : decode 0b10010000000000000000000000000000 = .ok .consume := by decide
theorem test_decode_derive : decode 0b10100000000000000000000000000000 = .ok .derive := by decide
-- OP 1011, twenty zeros, IDX 00001100
theorem test_decode_readReg : decode 0b10110000000000000000000000001100 = .ok (.readReg 12) := by decide

-- The illegal words of V-ENC.
theorem test_illegal_cause1 : decode 0xC0000000 = .error .reservedOpcode ∧ decode 0xFFFFFFFF = .error .reservedOpcode := by
  decide
theorem test_illegal_cause2 :
    decode 0x00000001 = .error .reservedBit ∧ decode 0x10000100 = .error .reservedBit ∧
      decode 0x30000001 = .error .reservedBit ∧ decode 0x40000080 = .error .reservedBit ∧
      decode 0x40000800 = .error .reservedBit ∧ decode 0x80000132 = .error .reservedBit ∧
      decode 0x70000100 = .error .reservedBit ∧ decode 0x90000001 = .error .reservedBit := by decide
theorem test_illegal_cause3 :
    decode 0x70000000 = .error .operandDomain ∧ decode 0x80000065 = .error .operandDomain ∧
      decode 0x8000007F = .error .operandDomain := by decide
theorem test_illegal_cause4 : decode 0xB000000D = .error .registerIndex ∧ decode 0xB00000FF = .error .registerIndex := by
  decide

-- The assembler examples of R95, R96 and V-ENC.
theorem test_assemble_setAddress : assembleLine "SET_ADDRESS 3, 100".toList = some [0x40000364] := by decide
theorem test_assemble_char : assembleLine "DISPLAY_CHAR 'A'".toList = some [0x60000041] := by decide
theorem test_assemble_string : assembleLine "DISPLAY_STRING \"A\"".toList = some [0x60000041] := by decide
theorem test_assemble_name : assembleLine "READ_REG SNAP_HIGH".toList = some [0xB000000C] := by decide
-- R95: a quoted comma is an operand, and so is a quoted space.
theorem test_assemble_quoted_comma :
    assembleLine "DISPLAY_CHAR ','".toList = some [0x6000002C] ∧ assembleLine "WRITE_BYTE 1, ' '".toList = some [0x21000020] := by
  decide
theorem test_assemble_refuses : assembleLine "WAVE_STEP 101".toList = none ∧ assembleLine "GOTOXY 8, 0".toList = none := by
  decide

/-! ### Small states -/

/-- The state a single step leads to. -/
def stepTo (s : State) : Option State :=
  match step s with
  | .next t => some t
  | .fault _ => none
  | .refused _ => none

/-- Reset state with a word offered. -/
def offered (w : Word) : State := State.reset.offerWord w

/-- A slot in which one edge event arrives and nothing else happens. -/
def edgeSlot (rising : Bool) (ticks : Nat) : Slot :=
  { Slot.quiet with edge := some rising, ticks := ticks, pace := .wait, rspReady := false }

/-- Events rising@100, falling@130, rising@200 taken from reset (E5). -/
def measured : State :=
  captureEvent true 200 (captureEvent false 130 (captureEvent true 100 State.reset))

/-- One page of trace, rows 57 and 60: a small geometry for the renderer. -/
def smallConfig : Config := { Config.default with yHigh := 57, yLow := 60, tracePageLo := 7, tracePageHi := 7 }

/-! ### Commands -/

theorem test_nop : (stepTo (offered 0x00000000)).map (fun t => (t.trace.length, t.rsp, t.ill)) = some (0, [], false) := by
  decide

-- V-BUS, R101: SEND_CMD 2, 0xBB sets PG_2 to 3.
theorem test_sendCmd_page :
    (stepTo (offered 0x120000BB)).map (fun t => (t.trace, t.disp.c2, t.disp.c1)) =
      some ([.C (some .two) 0xBB], ⟨3, 0⟩, ⟨0, 0⟩) := by decide

-- V-BUS: SEND_CMD 2, 0xC0 is outside the pointer model.
theorem test_sendCmd_other :
    (stepTo (offered 0x120000C0)).map (fun t => (t.trace, t.disp.c2)) = some ([.C (some .two) 0xC0], ⟨0, 0⟩) := by decide

-- V-BUS: WRITE_BYTE 1, 0xAA after SET_ADDRESS 0, 5.
theorem test_writeByte :
    (execAll [.setAddress 0 5, .writeByte 1 0xAA] State.reset).map (fun t => (t.ramByte 5, t.disp.c1.col)) =
      some (0xAA, 6) := by decide

-- V-BUS: WRITE_BYTE 0, 0xAA is lost.
theorem test_writeByte_none :
    (stepTo (offered 0x200000AA)).map (fun t => (t.trace, t.disp.ram)) = some ([.D none 0xAA], []) := by decide

-- E2: write then read.
theorem test_readByte :
    (execAll [.setAddress 2 70, .writeByte 2 0x5A, .setAddress 2 70, .readByte 2] State.reset).map
      (fun t => (t.rsp, t.busTrace)) =
      some ([0x5A], [.C (some .two) 0xBA, .C (some .two) 0x46, .D (some .two) 0x5A, .C (some .two) 0xBA,
        .C (some .two) 0x46, .R (some .two) 0x5A]) := by decide

-- E1: SET_ADDRESS 7, 63 and 7, 64.
theorem test_setAddress_boundary :
    (execAll [.setAddress 7 63, .setAddress 7 64] State.reset).map (fun t => t.busTrace) =
      some [.C (some .one) 0xBF, .C (some .one) 0x7F, .C (some .two) 0xBF, .C (some .two) 0x40] := by decide

-- P1: GOTOXY 0, 60, then the cursor word.
theorem test_gotoxy :
    (execAll [.gotoxy 3 100, .readReg 1] State.reset).map (fun t => (t.curPage, t.curCol, t.rsp)) =
      some (3, 100, [0x364]) := by decide

-- P1: text across the chip boundary.
theorem test_displayChar_boundary :
    (execAll [.gotoxy 0 60, .displayChar 0x41] State.reset).map (fun t =>
      (t.trace.length, t.curCol, [60, 61, 62, 63, 64, 65].map fun n => t.ramByte (positionAddr n))) =
      some (22, 66, [0x7E, 0x11, 0x11, 0x11, 0x7E, 0x00]) := by decide

-- V-TXT: from (7, 125) the glyph wraps to page 0.
theorem test_displayChar_wrap :
    (execAll [.gotoxy 7 125, .displayChar 0x5A] State.reset).map (fun t =>
      (t.trace.length, t.curPage, t.curCol, t.ramByte (positionAddr 1023), t.ramByte 0)) =
      some (20, 0, 3, 0x49, 0x45) := by decide

-- E4: codes 31 and 91.
theorem test_displayChar_unsupported :
    (execAll [.displayChar 31, .displayChar 91] State.reset).map (fun t => (t.trace, t.curCol, t.ill)) =
      some ([], 0, false) := by decide

-- R141.
theorem test_waveConfig :
    (execAll [.waveConfig 4] { State.reset with waveT := 3 }).map (fun t => (t.pixelPeriod, t.waveT, t.waveBuf)) =
      some (4, 0, 0) := by decide

-- V-WAV: highPixels, halves rounded up.
theorem test_highPixels :
    [highPixels 4 50, highPixels 3 50, highPixels 7 50, highPixels 1 49, highPixels 5 10, highPixels 127 100] =
      [2, 2, 4, 0, 1, 127] := by decide

-- P3's pattern in a one-page geometry, by hand from R152: high rows 57, 58, low rows 60, 61, connector 57..60.
theorem test_waveStep_image :
    (execAll [.waveConfig 4, .waveStep 50] (State.resetWith smallConfig)).map (fun t =>
      (t.waveT, t.trace.length, [125, 126, 127].map fun x => t.ramByte (positionAddr (7 * 128 + x)))) =
      some (1, 384 + 384 + 48, [0x30, 0x3E, 0x1E]) := by decide +kernel

-- V-WAV: with Y_HIGH = 47 the segment straddles pages 5 and 6.
theorem test_segment_straddles :
    (run (hsegOps { Config.default with yHigh := 47 } 0 47) State.reset).busTrace =
      [.C (some .one) 0xBD, .C (some .one) 0x40, .D (some .one) 0x80, .C (some .one) 0xBE, .C (some .one) 0x40,
        .D (some .one) 0x01] := by decide

-- V-WAV: one connector is 252 transactions with the default geometry.
theorem test_connector_count : (vconnOps Config.default 127).length = 252 := by decide +kernel

-- R149: the duty of the snapshot (100, 30) is 30.
theorem test_waveStepM : dutyOf 100 30 = 30 ∧ dutyOf 0 5 = 0 ∧ dutyOf 10 25 = 100 := by decide

-- P2: CONSUME twice.
theorem test_consume :
    (execAll [.consume, .consume] measured).map (fun t => (t.rsp, t.measReady)) =
      some ([1, 100, 30, 0, 100, 30], false) := by decide

-- P2, and the last row of V-CAP's DERIVE table.
theorem test_derive :
    (execAll [.derive] { State.reset with snapPeriod := 100, snapHigh := 30 }).map (fun t => t.rsp) =
      some [20000, 30, 50, 0] := by decide

theorem test_derive_wide :
    (execAll [.derive] { State.resetWith { Config.default with tickUsNum := 1000, tickUsDen := 1 } with
      snapPeriod := 0xFFFFFFFF, snapHigh := 0xFFFFFFFF }).map (fun t => t.rsp) =
      some [0, 100, 0xFFFFFC18, 0x3E7] := by decide

-- V-REG: after reset READ_REG 2 answers 0x20; after rising@5, falling@9 STATUS is 2 and HIGH_TICKS 4.
theorem test_readReg :
    (execAll [.readReg 2, .readReg 0, .readReg 10] (captureEvent false 9 (captureEvent true 5 State.reset))).map
      (fun t => t.rsp) = some [0x20, 0x2, 4] := by decide

-- V-REG: after 0xC0000000 then 0x70000000, STATUS is 0x11.
theorem test_illegal_marks :
    ((stepTo (offered 0xC0000000)).bind fun t => stepTo (t.offerWord 0x70000000)).map (fun t => t.statusWord) =
      some 0x11 := by decide

/-! ### Events, reset, pins, paces -/

-- E5.
theorem test_events :
    (measured.prevRise, measured.phase, measured.periodTicks, measured.highTicks, measured.measReady) =
      (200, .awaitingFalling, 100, 30, true) := by decide

-- V-CAP: the counter wraps at TS_W = 24, and at 32.
theorem test_tickSub_wrap :
    tickSub { Config.default with tsW := 24 } 0x000010 0xFFFFF0 = 0x20 ∧
      tickSub Config.default 0x00000010 0xFFFFFF00 = 0x110 := by decide

-- V-CAP: mismatched falling and rising events.
theorem test_mismatched :
    (captureEvent false 50 State.reset).phase = .awaitingRising ∧
      (captureEvent true 20 (captureEvent true 10 State.reset)).prevRise = 10 := by decide

-- V-CAP: an event in CONSUME's slot comes first.
theorem test_same_slot_event :
    (stepTo { captureEvent true 100 State.reset with
      inputs := [{ Slot.quiet with cmd := some 0x90000000, edge := some false, ticks := 130 }] }).map (fun t => t.rsp) =
      some [1, 100, 30] := by decide

-- V-RST.
theorem test_reset_slot :
    (stepTo { measured with inputs := [{ Slot.quiet with rst := true, edge := some true, cmd := some 0x5000037D }] }).map
      (fun t => (t.periodTicks, t.measReady, t.curCol, t.pixelPeriod, t.pins.rstN, t.cmdReady)) =
      some (0, false, 0, 32, false, false) := by decide

-- R53: the pins of a write to chip 2, cycle by cycle: rs, e, cs1, cs2.
theorem test_pins_of_a_write :
    [1, 2, 3, 4, 5].map (fun m =>
      let p := ((tickCycle^[m]) { State.reset with remaining := [.bus (.write (some .two) 0xAA)] }).pins
      (p.rs, p.e, p.cs1, p.cs2)) =
      [(true, false, false, false), (true, false, false, true), (true, true, false, true), (true, false, false, true),
        (false, false, false, false)] := by decide

-- R34: a command begun in one slot is BUSY, and ends after one slot per step.
theorem test_begin_then_steps :
    (stepTo { State.reset with inputs := [{ Slot.quiet with cmd := some 0x4000003F, pace := .transaction }] }).map
      (fun t => (t.cmdReady, t.remaining.length, t.trace.length)) = some (false, 2, 0) := by decide

-- R54, U5: reads of no controller complete.
theorem test_read_none :
    (execAll [.readByte 0] State.reset).map (fun t => t.rsp.length) = some 1 ∧
      (execAll [.readByte 1] (State.resetWith { Config.default with display := .oracle })).map (fun t => t.rsp.length) =
        some 1 := by decide

/-! ### Witnesses: for each obligation with hypotheses, values that meet all of them -/

/-- A busy state: a SET_ADDRESS accepted, its two transactions outstanding. -/
def busyState : State := begin (.setAddress 0 63) State.reset

/-- A state with a read in progress. -/
def readingState : State := { startTxn (.read (some .one) .respond) State.reset with inputs := [] }

theorem witness_DecodeOfEncode :
    Instr.wf (.gotoxy 7 127) = true ∧ Instr.wf (.waveStep 100) = true ∧ Instr.wf (.waveConfig 127) = true ∧
      Instr.wf (.readReg 0x0C) = true := by decide

theorem witness_RowsSelected :
    (0x80000064 : Word) &&& (Instr.waveStep 0).tableRow.2 = (Instr.waveStep 0).tableRow.1 ∧
      (0x80000064 : Word) &&& (Instr.waveStep 5).tableRow.2 = (Instr.waveStep 5).tableRow.1 := by decide

theorem witness_StepRuns :
    (offered 0x5000077F).cfg.ok = true ∧ (offered 0x5000077F).idle = true ∧ (offered 0x5000077F).nextSlot.rst = false ∧
      (offered 0x5000077F).nextSlot.cmd = some 0x5000077F ∧ (offered 0x5000077F).nextSlot.pace = .command ∧
      decode 0x5000077F = .ok (.gotoxy 7 127) ∧ decode (tableWord 32 0x5000077F) = .ok (.gotoxy 7 127) := by decide

theorem witness_IllegalWord :
    (offered 0xB000000D).cfg.ok = true ∧ (offered 0xB000000D).idle = true ∧ (offered 0xB000000D).nextSlot.rst = false ∧
      (offered 0xB000000D).nextSlot.cmd = some 0xB000000D ∧ decode 0xB000000D = .error .registerIndex := by decide

theorem witness_NothingStops : State.reset.cfg.ok = true := by decide

theorem witness_ConfigurationConstraints :
    ({ Config.default with yLow := 63 } : Config).ok = false ∧ ({ Config.default with yLow := 62 } : Config).ok = true ∧
      smallConfig.ok = true := by decide

theorem witness_StepKeepsInvariants :
    State.reset.regInv = true ∧ State.reset.memInv = true ∧ State.reset.busInv = true ∧ ∃ t, step State.reset = .next t :=
  ⟨by decide, by decide, by decide, _, rfl⟩

theorem witness_StepKeepsInvariants_busy :
    busyState.regInv = true ∧ readingState.busInv = true ∧ readingState.pins.dbOe = false ∧
      (∃ t, step busyState = .next t) ∧ ∃ t, step readingState = .next t :=
  ⟨by decide, by decide, by decide, ⟨_, rfl⟩, _, rfl⟩

theorem witness_BlockReset :
    let s := { busyState with inputs := [{ Slot.quiet with rst := true }] }
    s.cfg.ok = true ∧ s.nextSlot.rst = true ∧ s.idle = false := by decide

theorem witness_BlockReset_firstCycle : Slot.quiet.rst = false ∧ Slot.quiet.edge = none := by decide

theorem witness_ResetWins :
    State.reset.cfg.ok = true ∧ ({ Slot.quiet with rst := true, cmd := some 0, edge := some true } : Slot).rst = true := by
  decide

theorem witness_DisplayResetLine : ∃ t, step { State.reset with inputs := [{ Slot.quiet with rst := true }] } = .next t :=
  ⟨_, rfl⟩

theorem witness_RisingEvent :
    let s := { busyState with inputs := [edgeSlot true 0xFFFFFFFF] }
    s.cfg.ok = true ∧ s.nextSlot.onlyEvent = true ∧ s.nextSlot.edge = some true ∧ s.phase = .awaitingRising := by decide

theorem witness_FallingEvent :
    let s := { measured with inputs := [edgeSlot false 0] }
    s.cfg.ok = true ∧ s.nextSlot.onlyEvent = true ∧ s.nextSlot.edge = some false ∧ s.phase = .awaitingFalling ∧
      s.measReady = true := by decide

theorem witness_Mismatched :
    (let s := { measured with inputs := [edgeSlot true 7] }
     s.cfg.ok = true ∧ s.nextSlot.onlyEvent = true ∧ s.nextSlot.edge = some true ∧ true = s.phase.bit) ∧
    (let s := { State.reset with inputs := [edgeSlot false 7] }
     s.cfg.ok = true ∧ s.nextSlot.onlyEvent = true ∧ s.nextSlot.edge = some false ∧ false = s.phase.bit) := by decide

theorem witness_TickDifference :
    Config.default.ok = true ∧ (0xFFFFFFFF : Word).toNat < 2 ^ Config.default.tsW ∧ 2 ^ 32 - 1 < 2 ^ Config.default.tsW := by
  decide

theorem witness_MeasurementSequence :
    State.reset.cfg.ok = true ∧ State.reset.ticksOk = true ∧ State.reset.phase = .awaitingRising ∧
      30 + (2 ^ 32 - 31) < 2 ^ State.reset.cfg.tsW := by decide

theorem witness_Interleaved :
    let first : Slot := { Slot.quiet with cmd := some 0x4000003F, pace := .transaction }
    let rest : List Slot := [{ edgeSlot true 5 with pace := .transaction }, { edgeSlot false 9 with pace := .transaction }]
    let s := { State.reset with inputs := first :: rest }
    s.cfg.ok = true ∧ s.idle = true ∧ s.inputs = first :: rest ∧ first.rst = false ∧ first.cmd = some 0x4000003F ∧
      first.pace = .transaction ∧ decode 0x4000003F = .ok (.setAddress 0 63) ∧ Instr.setAddress 0 63 ≠ .consume ∧
      (∀ x, Instr.setAddress 0 63 ≠ .readReg x) ∧ rest.all Slot.oneStep = true ∧
      rest.length = (programOf (.setAddress 0 63) (openSlot first s.popSlot)).length ∧
      ∃ u, exec (.setAddress 0 63) (openSlot first s.popSlot) = .next u :=
  ⟨by decide, by decide, rfl, rfl, rfl, rfl, by decide, by decide, by decide, by decide, by decide, _, rfl⟩

theorem witness_TransactionCycles :
    State.reset.cfg.ok = true ∧ State.reset.flight = none ∧ State.reset.busInv = true ∧
      1 ≤ 4 ∧ 4 < 2 + State.reset.cfg.tSetup + State.reset.cfg.tPw + State.reset.cfg.tHold := by decide

theorem witness_BusyIgnores : busyState.cfg.ok = true ∧ busyState.idle = false := by decide

theorem witness_Responses :
    let s := { State.reset with rsp := [1, 2] }
    s.cfg.ok = true ∧ s.remaining = [] ∧ s.flight = none ∧ s.rsp = 1 :: [2] ∧ s.nextSlot.rst = false ∧
      s.nextSlot.rspReady = true := by decide

theorem witness_Responses_notReady :
    let s := { State.reset with rsp := [1], inputs := [{ Slot.quiet with rspReady := false }] }
    s.remaining = [] ∧ s.flight = none ∧ s.rsp = 1 :: [] ∧ s.nextSlot.rst = false ∧ s.nextSlot.rspReady = false := by decide

theorem witness_BusCommands :
    decodeChip 1 = some .one ∧ decodeChip 2 = some .two ∧ decodeChip 0 = none ∧ decodeChip 3 = none ∧
      State.reset.cfg.display = .conforming ∧ Chip.one ≠ Chip.two := by decide

theorem witness_BusCommands_bytes :
    (0xBF : Byte) &&& 0xF8 = State.reset.cfg.cmdPageBase ∧ (0x7F : Byte) &&& 0xF8 ≠ State.reset.cfg.cmdPageBase ∧
      (0x7F : Byte) &&& 0xC0 = State.reset.cfg.cmdColBase ∧ (0xC0 : Byte) &&& 0xC0 ≠ State.reset.cfg.cmdColBase := by decide

theorem witness_AddressedAccess :
    State.reset.cfg.ok = true ∧ State.reset.cfg.basesDistinct = true ∧ State.reset.cfg.display = .conforming ∧
      State.reset.cfg.dummyRead = false ∧ 1023 ≠ logicalAddr 7 126 := by decide

theorem witness_AddressTranslation :
    (63 : BitVec 7).toNat < 64 ∧ 64 ≤ (64 : BitVec 7).toNat ∧ logicalAddr 7 127 = 1023 ∧ logicalAddr 0 0 = 0 ∧ 1023 < 1024 := by
  decide

theorem witness_RmwOr : (63 : Nat) < 64 ∧ (7 : Nat) < 8 ∧ logicalAddr (BitVec.ofNat 3 (63 / 8)) 127 = 1023 := by decide

theorem witness_WriteThenRead :
    decodeChip 1 = some (chipOf 63) ∧ decodeChip 2 = some (chipOf 64) ∧ State.reset.cfg.ok = true ∧
      State.reset.cfg.basesDistinct = true ∧ State.reset.cfg.display = .conforming := by decide

theorem witness_DisplayChar :
    32 ≤ (32 : Byte).toNat ∧ (90 : Byte).toNat ≤ 90 ∧ 32 ≤ (90 : Byte).toNat ∧ (32 : Byte).toNat ≤ 90 ∧ (5 : Nat) < 6 ∧
      (∀ i, i < 6 → (0 : Nat) ≠ positionAddr (State.reset.cursorIndex + 1 + i)) := by decide

theorem witness_Unsupported : (31 : Byte).toNat < 32 ∧ 90 < (91 : Byte).toNat ∧ 90 < (255 : Byte).toNat := by decide

theorem witness_WaveConfig : (1 : BitVec 7) ≠ 0 ∧ (127 : BitVec 7) ≠ 0 ∧ (0 : BitVec 7) = 0 := by decide

theorem witness_WaveStep :
    (100 : BitVec 7) ≤ 100 ∧ (0 : BitVec 7) ≤ 100 ∧ State.reset.waveT < State.reset.pixelPeriod := by decide

theorem witness_OutOfDomain : (100 : BitVec 7) < 101 ∧ (0x0C : BitVec 8) < 0x0D := by decide

theorem witness_RenderedImage :
    (∃ d : BitVec 7, d ≤ 100 ∧ Instr.waveStep 100 = .waveStep d) ∧ State.reset.cfg.ok = true ∧
      State.reset.cfg.basesDistinct = true ∧ State.reset.cfg.display = .conforming ∧ State.reset.cfg.dummyRead = false ∧
      8 * State.reset.cfg.tracePageLo ≤ 40 ∧ 63 < 8 * (State.reset.cfg.tracePageHi + 1) ∧ (127 : Nat) < 128 :=
  ⟨⟨100, by decide, rfl⟩, by decide, by decide, rfl, rfl, by decide, by decide, by decide⟩

theorem witness_RenderRegion : ∀ (p : BitVec 3) (c : BitVec 7), State.reset.cfg.tracePageLo ≤ p.toNat →
    p.toNat ≤ State.reset.cfg.tracePageHi → (0 : Nat) ≠ logicalAddr p c := by decide +kernel

theorem witness_TransactionCounts : (Instr.displayChar 65).wf = true ∧ Instr.waveStepM.wf = true ∧ State.reset.cfg.ok = true := by
  decide

theorem witness_BufferHistory :
    (∀ i ∈ [Instr.waveConfig 4, .waveStep 50, .consume, .waveStepM], i.wf = true) ∧ Config.default.ok = true ∧
      measured.measReady = true ∧ measured.waveT < measured.pixelPeriod ∧ State.reset.waveT < State.reset.pixelPeriod ∧ (127 : Nat) < 128 := by decide

theorem witness_Consume : measured.measReady = true ∧ State.reset.measReady = false := by decide

theorem witness_ConsumeSeesEvent :
    let s := { measured with inputs := [{ Slot.quiet with cmd := some 0x90000000, edge := some false, ticks := 9 }] }
    s.cfg.ok = true ∧ s.idle = true ∧ s.nextSlot.rst = false ∧ s.nextSlot.edge = some false ∧
      s.nextSlot.cmd = some 0x90000000 ∧ s.nextSlot.pace = .command ∧ s.phase = .awaitingFalling := by decide

theorem witness_ConsumeSeesEvent_outstanding :
    let slot : Slot := { Slot.quiet with edge := some true, ticks := 9, pace := .cycle }
    (let s := { captureEvent false 230 measured with remaining := [.consume], inputs := [slot] }
     s.cfg.ok = true ∧ s.nextSlot.rst = false ∧ s.flight = none ∧ s.remaining = [.consume] ∧ s.nextSlot.pace ≠ .wait ∧
       s.nextSlot.edge = some true ∧ s.phase = .awaitingRising ∧ s.measReady = true) ∧
    (let s := { State.reset with remaining := [.consume], inputs := [{ slot with pace := .transaction }] }
     s.nextSlot.rst = false ∧ s.flight = none ∧ s.remaining = [.consume] ∧ s.nextSlot.pace ≠ .wait ∧
       s.nextSlot.edge = some true ∧ s.phase = .awaitingRising ∧ s.measReady = false) := by decide

theorem witness_ConsumeAndReadReg :
    let first : Slot := { Slot.quiet with cmd := some 0xB0000009, pace := .transaction }
    let sl : Slot := { edgeSlot true 9 with pace := .cycle }
    let s := { State.reset with inputs := first :: ([edgeSlot false 5] ++ sl :: []) }
    s.cfg.ok = true ∧ s.idle = true ∧ first.rst = false ∧ first.cmd = some 0xB0000009 ∧ first.pace ≠ .command ∧
      decode 0xB0000009 = .ok (.readReg 9) ∧ decode 0x90000000 = .ok .consume ∧
      [edgeSlot false 5].all Slot.stalls = true ∧ sl.rst = false ∧ sl.pace ≠ .wait := by decide

theorem witness_Derive : measured.cfg.ok = true := by decide

theorem witness_ReadReg :
    (0x00 : BitVec 8) ≤ 0x0C ∧ (0x0C : BitVec 8) ≤ 0x0C ∧ (0x04 : BitVec 8) ≤ 0x07 ∧ (31 : Nat) < 32 := by decide

theorem witness_ResponseCounts : Instr.consume.wf = true ∧ (Instr.readReg 0).wf = true := by decide

theorem witness_CaptureOwner :
    let s := { measured with inputs := [{ Slot.quiet with cmd := some 0x90000000 }] }
    (∃ t, step s = .next t ∧ ¬(s.sameSnapshot t ∧ t.measReady = s.measReady)) ∧ s.nextSlot.rst = false ∧
      s.nextSlot.edge = none :=
  ⟨⟨_, rfl, fun h => absurd h.2 (by decide)⟩, rfl, rfl⟩

theorem witness_Sticky :
    let s := { illegalCommand .reservedBit State.reset with inputs := [{ Slot.quiet with cmd := some 0xC0000000 }] }
    (∃ t, step s = .next t) ∧ s.nextSlot.rst = false ∧ s.ill = true ∧ s.cfg.ok = true ∧ s.idle = true ∧
      s.nextSlot.cmd = some 0xC0000000 ∧ decode 0xC0000000 = .error .reservedOpcode :=
  ⟨⟨_, rfl⟩, rfl, rfl, by decide, by decide, rfl, by decide⟩

theorem witness_EachRegister :
    Instr.readReg 0 ≠ .consume ∧ Instr.readReg 0 ≠ .waveStepM ∧ (Instr.readReg 0).wf = true ∧
      (∀ d, Instr.readReg 0 ≠ .waveStep d) := by decide

theorem witness_DisplayIndependence :
    let is : List Instr := [.displayChar 65, .setAddress 0 0]
    (∀ i ∈ is, i.wf = true) ∧ (∀ i ∈ is, ∀ ch, i ≠ .readByte ch) ∧
      State.reset.withoutDisplay =
        ({ State.reset with cfg := { Config.default with display := .oracle }, rdLatch := 5 } : State).withoutDisplay :=
  ⟨by decide, by decide, rfl⟩

theorem witness_Assembler :
    assembleInstr "GOTOXY".toList [7, 127] = some (.gotoxy 7 127) ∧ (∀ x ∈ ([0x41, 0x42] : List Byte), x ≠ 0) ∧
      [1, 2, 3].length ≠ 2 ∧ ([] : List Nat).length ≠ 1 := by decide

theorem witness_Quoted : (Char.ofNat 44).toNat < 128 ∧ (Char.ofNat 39).toNat = 39 ∧ (Char.ofNat 127).toNat < 128 := by decide

end Sys2Proof.Tests
end

section
/-! Proofs about the scope of the machine (spec/00_scope.md): which configurations it has, and where the trace is
drawn in a legal one. -/

namespace Sys2Proof.Machine

/-- Every step first asks whether the configuration is one of this hardware (R8). -/
theorem step_of_not_ok {s : State} (h : s.cfg.ok = false) : step s = .refused .illegalConfiguration := by
  simp [step, h]

/-- The part of `Config.ok` that R8 states. -/
theorem Config.ok_geometry {c : Config} (h : c.ok = true) :
    c.tracePageLo ≤ c.tracePageHi ∧ c.tracePageHi ≤ 7 ∧ 8 * c.tracePageLo ≤ c.top ∧
      c.bot + 1 ≤ 8 * c.tracePageHi + 7 := by
  simp only [Config.ok, Config.geometryOk, Bool.and_eq_true, decide_eq_true_eq] at h
  obtain ⟨_, ⟨⟨hpages, hhi⟩, htop⟩, hbot⟩ := h
  exact ⟨hpages, hhi, htop, hbot⟩

/-- The renderer draws on the rows `TOP` to `BOT + 1` only, and each is in a page that it erases (R8). -/
theorem Config.drawn_row_erased {c : Config} (h : c.ok = true) {r : Nat} (hr : c.top ≤ r) (hr' : r ≤ c.bot + 1) :
    c.tracePageLo ≤ r / 8 ∧ r / 8 ≤ c.tracePageHi ∧ r ≤ 63 := by
  obtain ⟨_, hhi, htop, hbot⟩ := Config.ok_geometry h
  omega

theorem Config.default_ok : Config.default.ok = true := by decide

/-- Settles O9: the step tests the configuration first, and in a legal one the page of a drawn row is bounded by the
pages of `TOP` and of `BOT + 1`. -/
theorem configurationConstraints : Obligations.ConfigurationConstraints := by
  refine ⟨fun _ => step_of_not_ok, fun c hc => ?_, Config.default_ok, rfl, rfl, rfl, rfl⟩
  obtain ⟨hpages, hhi, htop, hbot⟩ := Config.ok_geometry hc
  exact ⟨hpages, hhi, htop, hbot, fun _ => Config.drawn_row_erased hc⟩

end Sys2Proof.Machine
end

section
/-! The step, one equation per case of the slot (spec/10_state.md R34): what an idle and what a busy sequencer does with
it. Then the two handshakes. -/

namespace Sys2Proof.Machine

@[simp] theorem popSlot_idle (s : State) : s.popSlot.idle = s.idle := rfl

@[simp] theorem popSlot_rspValid (s : State) : s.popSlot.rspValid = s.rspValid := rfl

@[simp] theorem openSlot_idle (sl : Slot) (s : State) : (openSlot sl s).idle = s.idle := by simp [State.idle]

@[simp] theorem openSlot_rspValid (sl : Slot) (s : State) : (openSlot sl s).rspValid = s.rspValid := by
  simp [State.rspValid]

/-- Outside reset the block is ready exactly when the sequencer is idle (R34). -/
@[simp] theorem openSlot_cmdReady (sl : Slot) (s : State) : (openSlot sl s).cmdReady = s.idle := by
  simp [State.cmdReady]

theorem step_of_ok {s : State} (h : s.cfg.ok = true) : step s = playSlot s.nextSlot s.popSlot := if_pos h

theorem playSlot_of_rst (sl : Slot) (s : State) (h : sl.rst = true) : playSlot sl s = .next (blockReset sl s) := if_pos h

theorem playSlot_of_word {sl : Slot} {s : State} {w : Word} (hr : sl.rst = false) (hi : s.idle = true)
    (hw : sl.cmd = some w) : playSlot sl s = acceptWord w sl.pace (openSlot sl s) := by
  simp [playSlot, hr, hi, hw]

/-- A busy sequencer offers its next response, or makes progress. The word offered does not occur. -/
theorem playSlot_of_busy (sl : Slot) (s : State) (hr : sl.rst = false) (hi : s.idle = false) :
    playSlot sl s = .next (if s.rspValid then (if sl.rspReady then deliver (openSlot sl s) else openSlot sl s)
      else progress sl.pace (openSlot sl s)) := by
  simp only [playSlot, hr, openSlot_cmdReady, openSlot_rspValid, hi]
  cases s.rspValid <;> rfl

theorem acceptWord_of_error {w : Word} {c : Cause} (h : decode w = .error c) (pace : Pace) (s : State) :
    acceptWord w pace s = .next (illegalCommand c s) := by
  simp [acceptWord, h]

/-- Settles O24: neither a reset nor a busy sequencer's slot looks at the word. -/
theorem busySequencerIgnoresTheWord : Obligations.BusySequencerIgnoresTheWord := by
  intro s sl rest w hok hbusy
  have hstep (c : Option Word) : step { s with inputs := { sl with cmd := c } :: rest } =
      playSlot { sl with cmd := c } { s with inputs := rest } := step_of_ok hok
  rw [hstep, hstep]
  rcases Bool.eq_false_or_eq_true sl.rst with hr | hr
  · exact ⟨_, playSlot_of_rst _ _ hr, playSlot_of_rst _ _ hr⟩
  · exact ⟨_, playSlot_of_busy _ _ hr hbusy, playSlot_of_busy _ _ hr hbusy⟩

/-- Settles O25: while a response is pending the sequencer is busy, and its slot only delivers. -/
theorem responsesDeliveredInOrder : Obligations.ResponsesDeliveredInOrder := by
  intro s r rs hok hops hflight hrsp hr
  have hvalid : s.rspValid = true := by simp [State.rspValid, hops, hflight, hrsp]
  have hbusy : s.idle = false := by simp [State.idle, hrsp]
  refine ⟨by simp [State.rspWord, hvalid, hrsp], by simp [State.cmdReady, hbusy], _,
    (step_of_ok hok).trans (playSlot_of_busy _ _ hr hbusy), fun hready => ?_, fun hwait => ?_⟩
  · simp [hvalid, hready, deliver, hrsp, State.idle, hops, hflight]
  · simp [hvalid, hwait, hbusy]

end Sys2Proof.Machine
end

section
/-! The part of the state that no bus transaction reaches: the registers of spec/10_state.md sections 3 to 6, the
configuration and the timestamp counter. For this part a slot takes its event and then makes some whole steps of
the sequencer, at every pace (`step_block`). -/

namespace Sys2Proof.Machine

/-- A state with everything but the registers of sections 3 to 6, the configuration and the counter blanked out. -/
def State.block (s : State) : State :=
  { s with
    remaining := [], flight := none, rdLatch := 0, rsp := [], pins := Pins.idle s.cfg 0, disp := Display.reset
    draws := 0, inputs := [], trace := [], rspLog := [] }

theorem same_of_block {s t : State} (h : t.block = s.block) :
    s.sameCapture t ∧ s.sameSnapshot t ∧ s.sameStatus t ∧ t.cfg = s.cfg := by
  simp only [State.block, State.mk.injEq] at h
  simp [State.sameCapture, State.sameSnapshot, State.sameStatus, h]

@[simp] theorem transact_block (t : Txn) (s : State) : (transact t s).block = s.block := by simp [State.block]

@[simp] theorem busEffect_block (t : Txn) (s : State) : (busEffect t s).block = s.block := by simp [State.block]

@[simp] theorem deliver_block (s : State) : (deliver s).block = s.block := by simp [State.block]

@[simp] theorem tickFlight_block (f : Flight) (s : State) : (tickFlight f s).block = s.block := by
  obtain ⟨x, stage, left⟩ := f
  cases left with
  | succ n => rfl
  | zero =>
    cases stage with
    | enable => simp only [tickFlight, busEffect_block]; rfl
    | _ => rfl

@[simp] theorem tickFlight_remaining (f : Flight) (s : State) : (tickFlight f s).remaining = s.remaining := by
  obtain ⟨x, stage, left⟩ := f
  cases left with
  | succ n => rfl
  | zero => cases stage <;> simp [tickFlight]

@[simp] theorem finishFlight_block (f : Flight) (s : State) : (finishFlight f s).block = s.block := by
  unfold finishFlight
  split
  · rfl
  · exact transact_block _ _

@[simp] theorem finishFlight_remaining (f : Flight) (s : State) : (finishFlight f s).remaining = s.remaining := by
  unfold finishFlight; split <;> simp

/-- What a step of the sequencer does to the registers depends on the registers alone. -/
theorem runOp_block_congr (op : MicroOp) {s s' : State} (h : s.block = s'.block) :
    (runOp op s).block = (runOp op s').block := by
  simp only [State.block, State.mk.injEq] at h
  cases op with
  | consume =>
    cases hready : s.measReady <;> cases hready' : s'.measReady <;>
      simp_all [runOp, State.block, consumeStep, consumeHandoff]
  | _ => simp_all [runOp, State.block, sampleStep, State.nextSample, illegalCommand]

theorem run_block_congr (ops : List MicroOp) {s s' : State} (h : s.block = s'.block) :
    (run ops s).block = (run ops s').block := by
  induction ops generalizing s s' with
  | nil => exact h
  | cons op ops ih => exact ih (runOp_block_congr op h)

@[simp] theorem runOp_remaining (op : MicroOp) (s : State) : (runOp op s).remaining = s.remaining := by
  cases op <;> simp [runOp]

@[simp] theorem run_remaining (ops : List MicroOp) (s : State) : (run ops s).remaining = s.remaining := by
  obtain ⟨_, _, _, _, hrem, _⟩ := run_frame ops s
  exact hrem

theorem tickCycle_block (s : State) :
    ∃ done, s.remaining = done ++ (tickCycle s).remaining ∧ (tickCycle s).block = (run done s).block := by
  unfold tickCycle
  split
  next f hf => exact ⟨[], by simp⟩
  next t ops _ hrem => exact ⟨[.bus t], hrem, (transact_block t s).symm⟩
  next op ops _ _ hrem => exact ⟨[op], by simpa using hrem, runOp_block_congr op rfl⟩
  next => exact ⟨[], by simp⟩

theorem finishStep_block (s : State) :
    ∃ done, s.remaining = done ++ (finishStep s).remaining ∧ (finishStep s).block = (run done s).block := by
  unfold finishStep
  split
  next f hf => exact ⟨[], by simp⟩
  next op ops _ hrem => exact ⟨[op], by simpa using hrem, runOp_block_congr op rfl⟩
  next => exact ⟨[], by simp⟩

theorem finishCommand_block (s : State) :
    (finishCommand s).remaining = [] ∧ (finishCommand s).block = (run s.remaining s).block := by
  refine ⟨by simp [finishCommand], ?_⟩
  unfold finishCommand
  split
  next f hf =>
    dsimp only
    rw [finishFlight_remaining]
    exact run_block_congr _ (finishFlight_block f s)
  next => exact run_block_congr _ rfl

/-- For the registers, progress is the first few of the outstanding steps, whatever the pace. -/
theorem progress_block (pace : Pace) (s : State) :
    ∃ done, s.remaining = done ++ (progress pace s).remaining ∧ (progress pace s).block = (run done s).block := by
  cases pace with
  | wait => exact ⟨[], rfl, rfl⟩
  | cycle => exact tickCycle_block s
  | transaction => exact finishStep_block s
  | command =>
    obtain ⟨hrem, hblock⟩ := finishCommand_block s
    exact ⟨s.remaining, by simp [progress, hrem], hblock⟩

/-- Where the steps come from that a slot without reset makes (`done`) and leaves outstanding (`left`). -/
inductive State.SlotWork (s : State) : List MicroOp → List MicroOp → Prop where
  /-- An illegal word was accepted (R201). -/
  | illegal {w : Word} {c : Cause} (hi : s.idle = true) (hw : s.nextSlot.cmd = some w) (hd : decode w = .error c) :
      State.SlotWork s [.illegal c] []
  /-- A command was accepted. -/
  | command {w : Word} {i : Instr} {done left : List MicroOp} (hi : s.idle = true) (hw : s.nextSlot.cmd = some w)
      (hd : decode w = .ok i) (h : programOf i (openSlot s.nextSlot s.popSlot) = done ++ left) :
      State.SlotWork s done left
  /-- No word was accepted. -/
  | outstanding {done left : List MicroOp} (h : s.remaining = done ++ left) : State.SlotWork s done left

theorem remaining_of_idle {s : State} (h : s.idle = true) : s.remaining = [] := by
  simp only [State.idle, Bool.and_eq_true, List.isEmpty_iff] at h
  exact h.1.1

theorem flight_of_idle {s : State} (h : s.idle = true) : s.flight = none := by
  simp only [State.idle, Bool.and_eq_true, Option.isNone_iff_eq_none] at h
  exact h.1.2

/-- What a slot without reset does to the registers: its event is taken, then some steps of the sequencer are made. -/
theorem step_block {s t : State} (h : step s = .next t) (hr : s.nextSlot.rst = false) :
    ∃ done, s.SlotWork done t.remaining ∧ t.block = (run done (openSlot s.nextSlot s.popSlot)).block := by
  obtain ⟨_, ⟨hrst, _⟩ | ⟨_, hcases⟩⟩ := step_cases h
  · simp [hr] at hrst
  set u := openSlot s.nextSlot s.popSlot with hu
  have hrem : u.remaining = s.remaining := by simp [hu]
  have hidle : u.cmdReady = s.idle := by simp [hu]
  obtain ⟨hi, w, c, hw, hd, rfl⟩ | ⟨hi, w, i, hw, hd, _, rfl⟩ | ⟨hi, w, i, hw, hd, _, rfl⟩ | ⟨_, _, rfl⟩ |
    ⟨_, _, rfl⟩ | ⟨_, _, rfl⟩ := hcases
  · rw [hidle] at hi
    have hleft : (illegalCommand c u).remaining = [] := by simp [hrem, remaining_of_idle hi]
    exact ⟨[.illegal c], hleft ▸ State.SlotWork.illegal hi hw hd, rfl⟩
  · rw [hidle] at hi
    exact ⟨programOf i u, (.command hi hw hd (by simp [remaining_of_idle hi, hu])), rfl⟩
  · rw [hidle] at hi
    exact ⟨[], .command hi hw hd rfl, rfl⟩
  · exact ⟨[], .outstanding hrem.symm, rfl⟩
  · exact ⟨[], .outstanding (by split <;> simp [hrem]), by split <;> simp⟩
  · obtain ⟨done, hdone, hblock⟩ := progress_block s.nextSlot.pace u
    exact ⟨done, .outstanding (hrem.symm.trans hdone), hblock⟩

end Sys2Proof.Machine
end

section
/-! Which steps a command's program may hold, and which of them writes a register or a display byte: the written-by
column of spec/10_state.md section 2 is read off the two together. -/

namespace Sys2Proof.Machine

/-! ### The steps of a program -/

/-- A transaction that hands the controller a data byte to store (R53). -/
def Txn.isDataWrite : Txn → Bool
  | .write _ _ | .writeOr _ _ => true
  | .cmd _ _ | .read _ _ => false

/-- The steps that may stand in a command's program, those that write a register or a display byte each with the
commands it belongs to. -/
def MayIssue (i : Instr) : MicroOp → Prop
  | .bus t => t.isDataWrite = true →
      (∃ ch b, i = .writeByte ch b) ∨ (∃ code, i = .displayChar code) ∨ (∃ d, i = .waveStep d) ∨ i = .waveStepM
  | .setCursor _ _ => (∃ p c, i = .gotoxy p c) ∨ ∃ code, i = .displayChar code
  | .setPeriod per => per ≠ 0 ∧ i = .waveConfig per
  | .sample _ => (∃ d, i = .waveStep d) ∨ i = .waveStepM
  | .consume => i = .consume
  | .derive | .readReg _ => True
  | .illegal _ => i.wf = false

@[simp] theorem isBus_eraseOps (cfg : Config) : (eraseOps cfg).all MicroOp.isBus = true := by
  simp [eraseOps, List.all_flatMap]

@[simp] theorem isBus_hsegOps (cfg : Config) (x : BitVec 7) (y : Nat) : (hsegOps cfg x y).all MicroOp.isBus = true := by
  unfold hsegOps; split <;> simp

@[simp] theorem isBus_vcolOps (cfg : Config) (c : BitVec 7) : (vcolOps cfg c).all MicroOp.isBus = true := by
  simp [vcolOps, List.all_flatMap]

@[simp] theorem isBus_columnOps (cfg : Config) (buf : BitVec 128) (x : Nat) :
    (columnOps cfg buf x).all MicroOp.isBus = true := by
  unfold columnOps; split <;> simp [vconnOps]

@[simp] theorem isBus_drawOps (cfg : Config) (buf : BitVec 128) : (drawOps cfg buf).all MicroOp.isBus = true := by
  simp [drawOps, List.all_flatMap]

theorem eq_bus_of_mem {ops : List MicroOp} (h : ops.all MicroOp.isBus = true) {op : MicroOp} (hop : op ∈ ops) :
    ∃ t, op = .bus t := by
  have hbus := List.all_eq_true.mp h op hop
  cases op with
  | bus t => exact ⟨t, rfl⟩
  | _ => simp [MicroOp.isBus] at hbus

/-- A render step samples, and beside that only issues transactions (R147). -/
theorem mem_renderOps {duty : Nat} {s : State} {op : MicroOp} (h : op ∈ renderOps duty s) :
    op = .sample duty ∨ ∃ t, op = .bus t := by
  rcases List.mem_cons.mp h with rfl | hdraw
  · exact .inl rfl
  · exact .inr (eq_bus_of_mem (by simp) hdraw)

/-- A glyph moves the cursor and issues transactions (R122). -/
theorem mem_glyphOps {cfg : Config} {page : BitVec 3} {col : BitVec 7} {bs : List Byte} {op : MicroOp}
    (h : op ∈ glyphOps cfg page col bs) : (∃ p c, op = .setCursor p c) ∨ ∃ t, op = .bus t := by
  induction bs generalizing page col with
  | nil => simp [glyphOps] at h
  | cons b bs ih =>
    simp only [glyphOps, advanceOps, List.append_assoc, List.cons_append, List.mem_append, List.mem_cons] at h
    obtain hwrite | rfl | haddr | hrest := h
    · exact .inr (eq_bus_of_mem (isBus_addrWriteOps _ _ _ _) hwrite)
    · exact .inl ⟨_, _, rfl⟩
    · exact .inr (eq_bus_of_mem (by split <;> simp) haddr)
    · exact ih hrest

/-- An index no register has is out of the operand's domain (R88, R182). -/
theorem wf_readReg_of_ofIndex_none : ∀ idx : BitVec 8, Reg.ofIndex idx = none → (Instr.readReg idx).wf = false := by
  decide +kernel

theorem renderOps_mayIssue {i : Instr} (hi : (∃ d, i = .waveStep d) ∨ i = .waveStepM) {duty : Nat} {s : State}
    {op : MicroOp} (h : op ∈ renderOps duty s) : MayIssue i op := by
  obtain rfl | ⟨t, rfl⟩ := mem_renderOps h
  · exact hi
  · exact fun _ => .inr (.inr hi)

theorem programOf_mayIssue {i : Instr} {s : State} {op : MicroOp} (h : op ∈ programOf i s) : MayIssue i op := by
  cases i with
  | nop => cases h
  | sendCmd ch data => cases List.mem_singleton.mp h; simp [MayIssue, Txn.isDataWrite]
  | writeByte ch data => cases List.mem_singleton.mp h; simp [MayIssue]
  | readByte ch => cases List.mem_singleton.mp h; simp [MayIssue, Txn.isDataWrite]
  | setAddress pg col =>
    obtain rfl | rfl : _ ∨ _ := by simpa [programOf, progSetAddress, setAddressOps] using h
    all_goals simp [MayIssue, Txn.isDataWrite]
  | gotoxy pg col =>
    obtain rfl | rfl | rfl : _ ∨ _ ∨ _ := by simpa [programOf, progGotoxy, setAddressOps] using h
    all_goals simp [MayIssue, Txn.isDataWrite]
  | displayChar code =>
    simp only [programOf, progDisplayChar] at h
    split at h
    · obtain ⟨p, c, rfl⟩ | ⟨t, rfl⟩ := mem_glyphOps h <;> simp [MayIssue]
    · cases h
  | waveConfig per =>
    simp only [programOf, progWaveConfig] at h
    split at h
    next hper => cases List.mem_singleton.mp h; simp [MayIssue, Instr.wf, hper]
    next hper => cases List.mem_singleton.mp h; exact ⟨hper, rfl⟩
  | waveStep duty =>
    simp only [programOf, progWaveStep] at h
    split at h
    next hduty => cases List.mem_singleton.mp h; simpa [MayIssue, Instr.wf] using hduty
    next => exact renderOps_mayIssue (.inl ⟨duty, rfl⟩) h
  | waveStepM => exact renderOps_mayIssue (.inr rfl) h
  | consume => cases List.mem_singleton.mp h; rfl
  | derive => cases List.mem_singleton.mp h; trivial
  | readReg idx =>
    simp only [programOf, progReadReg] at h
    split at h
    next => cases List.mem_singleton.mp h; trivial
    next hnone => cases List.mem_singleton.mp h; exact wf_readReg_of_ofIndex_none idx hnone

/-! ### What one step of the sequencer leaves as it was -/

theorem runOp_sameCursor {op : MicroOp} (h : ∀ p c, op ≠ .setCursor p c) (s : State) : s.sameCursor (runOp op s) := by
  cases op with
  | setCursor p c => exact absurd rfl (h p c)
  | _ => simp [State.sameCursor, runOp]

theorem runOp_waveBuf {op : MicroOp} (h : ∀ d, op ≠ .sample d) (s : State) : (runOp op s).waveBuf = s.waveBuf := by
  cases op with
  | sample d => exact absurd rfl (h d)
  | _ => simp [runOp]

theorem runOp_waveT {op : MicroOp} (hd : ∀ d, op ≠ .sample d) (hp : ∀ p, op ≠ .setPeriod p) (s : State) :
    (runOp op s).waveT = s.waveT := by
  cases op with
  | sample d => exact absurd rfl (hd d)
  | setPeriod p => exact absurd rfl (hp p)
  | _ => simp [runOp]

theorem runOp_pixelPeriod {op : MicroOp} (h : ∀ p, op ≠ .setPeriod p) (s : State) :
    (runOp op s).pixelPeriod = s.pixelPeriod := by
  cases op with
  | setPeriod p => exact absurd rfl (h p)
  | _ => simp [runOp]

theorem runOp_measurement {op : MicroOp} (h : op ≠ .consume) (s : State) :
    (runOp op s).measReady = s.measReady ∧ s.sameSnapshot (runOp op s) := by
  cases op with
  | consume => exact absurd rfl h
  | _ => simp [State.sameSnapshot, runOp]

theorem runOp_sameStatus {op : MicroOp} (h : ∀ c, op ≠ .illegal c) (s : State) : s.sameStatus (runOp op s) := by
  cases op with
  | illegal c => exact absurd rfl (h c)
  | _ => simp [State.sameStatus, runOp]

/-- Only a data write changes a display byte (R61). -/
theorem transact_sameMemory {t : Txn} (h : t.isDataWrite = false) (s : State) : s.sameMemory (transact t s) := by
  intro a
  simp only [State.ramByte, transact, releaseBus_disp]
  cases t with
  | cmd k b => simp only [busEffect, busCmd]; split <;> simp
  | read k u => simp only [busEffect, useRead_disp, busRdData]; split <;> simp
  | _ => simp [Txn.isDataWrite] at h

theorem runOp_sameMemory {op : MicroOp} (h : ∀ t, op = .bus t → t.isDataWrite = false) (s : State) :
    s.sameMemory (runOp op s) := by
  cases op with
  | bus t => exact transact_sameMemory (h t rfl) s
  | _ => simp [State.sameMemory, State.ramByte, runOp]

/-! ### What a whole program leaves as it was -/

/-- What every step of a list keeps, the list keeps. -/
theorem run_keeps {α : Type} (f : State → α) {ops : List MicroOp} (h : ∀ op ∈ ops, ∀ s, f (runOp op s) = f s)
    (s : State) : f (run ops s) = f s := by
  induction ops generalizing s with
  | nil => rfl
  | cons op ops ih =>
    obtain ⟨hop, hops⟩ := List.forall_mem_cons.mp h
    exact (ih hops (runOp op s)).trans (hop s)

section programs
variable {i : Instr}

theorem run_programOf_sameCursor (hg : ∀ p c, i ≠ .gotoxy p c) (hd : ∀ code, i ≠ .displayChar code) (s : State) :
    s.sameCursor (run (programOf i s) s) := by
  have hop : ∀ op ∈ programOf i s, ∀ p c, op ≠ .setCursor p c := by
    rintro _ hmem p c rfl
    obtain ⟨p', c', hi⟩ | ⟨code, hi⟩ := programOf_mayIssue hmem
    · exact hg p' c' hi
    · exact hd code hi
  exact ⟨run_keeps _ (fun op hmem u => (runOp_sameCursor (hop op hmem) u).1) s,
    run_keeps _ (fun op hmem u => (runOp_sameCursor (hop op hmem) u).2) s⟩

theorem programOf_no_sample (hd : ∀ d, i ≠ .waveStep d) (hm : i ≠ .waveStepM) (s : State) :
    ∀ op ∈ programOf i s, ∀ d, op ≠ .sample d := by
  rintro _ hmem _ rfl
  obtain ⟨d, hi⟩ | hi := programOf_mayIssue hmem
  · exact hd d hi
  · exact hm hi

theorem programOf_no_setPeriod (hp : ∀ p, i ≠ .waveConfig p) (s : State) :
    ∀ op ∈ programOf i s, ∀ p, op ≠ .setPeriod p := by
  rintro _ hmem p rfl
  exact hp p (programOf_mayIssue hmem).2

theorem run_programOf_measurement (hi : i ≠ .consume) (s : State) :
    (run (programOf i s) s).measReady = s.measReady ∧ s.sameSnapshot (run (programOf i s) s) := by
  have hop : ∀ op ∈ programOf i s, op ≠ .consume := by
    rintro _ hmem rfl
    exact hi (programOf_mayIssue hmem)
  exact ⟨run_keeps _ (fun op hmem u => (runOp_measurement (hop op hmem) u).1) s,
    run_keeps _ (fun op hmem u => (runOp_measurement (hop op hmem) u).2.1) s,
    run_keeps _ (fun op hmem u => (runOp_measurement (hop op hmem) u).2.2) s⟩

theorem run_programOf_sameStatus (hwf : i.wf = true) (s : State) : s.sameStatus (run (programOf i s) s) := by
  have hop : ∀ op ∈ programOf i s, ∀ c, op ≠ .illegal c := by
    rintro _ hmem c rfl
    exact absurd hwf (by simp [show i.wf = false from programOf_mayIssue hmem])
  exact ⟨run_keeps _ (fun op hmem u => (runOp_sameStatus (hop op hmem) u).1) s,
    run_keeps _ (fun op hmem u => (runOp_sameStatus (hop op hmem) u).2) s⟩

theorem run_programOf_sameMemory (hw : ∀ ch b, i ≠ .writeByte ch b) (hc : ∀ code, i ≠ .displayChar code)
    (hd : ∀ d, i ≠ .waveStep d) (hm : i ≠ .waveStepM) (s : State) : s.sameMemory (run (programOf i s) s) := by
  have hop : ∀ op ∈ programOf i s, ∀ t, op = .bus t → t.isDataWrite = false := by
    rintro _ hmem t rfl
    by_contra hwrite
    obtain ⟨ch, b, hi⟩ | ⟨code, hi⟩ | ⟨d, hi⟩ | hi := programOf_mayIssue hmem (by simpa using hwrite)
    · exact hw ch b hi
    · exact hc code hi
    · exact hd d hi
    · exact hm hi
  exact fun a => run_keeps (·.ramByte a) (fun op hmem u => runOp_sameMemory (hop op hmem) u a) s

end programs

/-- Settles O55: the command ends where its program leads, and no step of the program is one that writes the group. -/
theorem eachRegisterHasItsWriters : Obligations.EachRegisterHasItsWriters := by
  intro i s hwf
  obtain ⟨hcfg, hts, hin, hlog, hrem, hfl, hprev, hphase, hperiod, hhigh⟩ := run_frame (programOf i s) s
  refine ⟨_, exec_eq_run i s, fun hg hd => run_programOf_sameCursor hg hd s,
    fun hd hm => run_keeps _ (fun op hmem => runOp_waveBuf (programOf_no_sample hd hm s op hmem)) s,
    fun hd hm hp => run_keeps _ (fun op hmem => runOp_waveT (programOf_no_sample hd hm s op hmem)
      (programOf_no_setPeriod hp s op hmem)) s,
    fun hp => run_keeps _ (fun op hmem => runOp_pixelPeriod (programOf_no_setPeriod hp s op hmem)) s,
    fun hi => run_programOf_measurement hi s, ⟨hprev, hphase, hperiod, hhigh⟩, run_programOf_sameStatus hwf s,
    ⟨hcfg, hts, hin, hlog⟩, ⟨hrem, hfl⟩, fun hw hc hd hm => run_programOf_sameMemory hw hc hd hm s⟩

end Sys2Proof.Machine
end

section
/-! Who writes the capture registers and the marks (spec/10_state.md R32, R33), over every slot: the slot's steps of the
sequencer as `step_block` gives them, and what they can do to the measurement and to the marks. -/

namespace Sys2Proof.Machine

/-! ### The word of CONSUME -/

/-- A decoded word sets no bit outside its format, and its opcode selects the command (R91). -/
theorem decode_ok {w : Word} {i : Instr} (h : decode w = .ok i) :
    i = selectRow w ∧ w.extractLsb' 0 28 &&& ~~~(fieldMask (opcode w)) = 0 := by
  unfold decode at h
  split_ifs at h with _ hreserved
  exact ⟨(Except.ok.inj h).symm, not_not.mp hreserved⟩

/-- No other opcode's row is CONSUME (R89). -/
theorem opcode_of_selectRow_consume {w : Word} (h : selectRow w = .consume) : opcode w = 9 := by
  unfold selectRow at h
  split at h
  case h_10 hop => exact BitVec.eq_of_toNat_eq hop
  case h_9 => split at h <;> cases h
  all_goals cases h

/-- A word is its opcode and the 28 bits below (R81). -/
theorem opcode_append (w : Word) : opcode w ++ w.extractLsb' 0 28 = w :=
  (BitVec.extractLsb'_append_extractLsb'_eq_extractLsb' rfl).trans BitVec.extractLsb'_eq_self

/-- CONSUME has one word (R166). -/
theorem word_of_decode_consume {w : Word} (h : decode w = .ok .consume) : w = 0x90000000 := by
  obtain ⟨hrow, hlow⟩ := decode_ok h
  have hop : opcode w = 9 := opcode_of_selectRow_consume hrow.symm
  have hmask : ~~~(fieldMask 9) = BitVec.allOnes 28 := rfl
  rw [hop, hmask, BitVec.and_allOnes] at hlow
  rw [← opcode_append w, hop, hlow]
  rfl

/-! ### The measurement -/

/-- The step of CONSUME takes a measurement that is ready, and leaves everything if none is (R166). -/
theorem consumeStep_measurement (s : State) :
    (s.measReady = true → (consumeStep s).snapPeriod = s.periodTicks ∧ (consumeStep s).snapHigh = s.highTicks) ∧
      (s.measReady = false → s.sameSnapshot (consumeStep s)) := by
  constructor <;> intro h <;> simp [State.sameSnapshot, consumeStep, consumeHandoff, h]

/-- What a list of steps may do to the measurement: leave it alone, or take it by a step of CONSUME. -/
theorem run_measurement (ops : List MicroOp) (s : State) :
    ((run ops s).measReady = s.measReady ∧ s.sameSnapshot (run ops s)) ∨
      (.consume ∈ ops ∧ s.measReady = true ∧ (run ops s).measReady = false ∧
        (run ops s).snapPeriod = s.periodTicks ∧ (run ops s).snapHigh = s.highTicks) := by
  induction ops generalizing s with
  | nil => exact .inl ⟨rfl, rfl, rfl⟩
  | cons op ops ih =>
    have hrest := ih (runOp op s)
    obtain ⟨_, _, _, _, _, _, _, _, hperiod, hhigh⟩ := runOp_frame op s
    by_cases hop : op = .consume
    · subst hop
      have hready : (runOp .consume s).measReady = false := consumeStep_measReady s
      obtain ⟨hkept, hsnap, hsnap'⟩ := hrest.resolve_right fun h => by simp [hready] at h
      obtain ⟨htaken, hsame⟩ := consumeStep_measurement s
      cases hs : s.measReady with
      | true =>
        obtain ⟨hp, hh⟩ := htaken hs
        exact .inr ⟨List.mem_cons_self, rfl, hkept.trans hready, hsnap.trans hp, hsnap'.trans hh⟩
      | false =>
        obtain ⟨hp, hh⟩ := hsame hs
        exact .inl ⟨hkept.trans hready, hsnap.trans hp, hsnap'.trans hh⟩
    · obtain ⟨hready, hp, hh⟩ := runOp_measurement hop s
      simp only [State.sameSnapshot, hready, hp, hh, hperiod, hhigh] at hrest ⊢
      exact hrest.imp_right fun ⟨hmem, htaken⟩ => ⟨List.mem_cons_of_mem op hmem, htaken⟩

/-- A slot without event begins with the capture registers and the snapshot as they were (R33). -/
theorem openSlot_of_no_edge {sl : Slot} (h : sl.edge = none) (s : State) :
    s.sameCapture (openSlot sl s) ∧ s.sameSnapshot (openSlot sl s) := by
  simp [State.sameCapture, State.sameSnapshot, openSlot, h]

/-- CONSUME's step is made in a slot only if it was outstanding or the slot's word is CONSUME (R166). -/
theorem State.SlotWork.consume_source {s : State} {done left : List MicroOp} (h : s.SlotWork done left)
    (hmem : .consume ∈ done) : .consume ∈ s.remaining ∨ (s.idle = true ∧ s.nextSlot.cmd = some 0x90000000) := by
  cases h with
  | illegal => simp at hmem
  | @command w i _ _ hi hw hd hprog =>
    have hconsume : i = .consume := programOf_mayIssue (op := .consume) (hprog ▸ List.mem_append_left left hmem)
    exact .inr ⟨hi, hw.trans (congrArg some (word_of_decode_consume (hconsume ▸ hd)))⟩
  | outstanding hrem => exact .inl (hrem ▸ List.mem_append_left left hmem)

/-- Settles O53: for the registers the slot is some steps of the sequencer from the state it began in; none writes a
register of R33, and only CONSUME's takes the measurement. -/
theorem captureRegistersHaveOneWriter : Obligations.CaptureRegistersHaveOneWriter := by
  intro s t h hr he
  obtain ⟨done, hwork, hblock⟩ := step_block h hr
  obtain ⟨⟨hprev, hphase, hperiod, hhigh, hready⟩, hsp, hsh⟩ := openSlot_of_no_edge he s.popSlot
  obtain ⟨_, _, _, _, _, _, hprev', hphase', hperiod', hhigh'⟩ := run_frame done (openSlot s.nextSlot s.popSlot)
  obtain ⟨⟨tprev, tphase, tperiod, thigh, tready⟩, ⟨tsp, tsh⟩, _⟩ := same_of_block hblock
  have htaken := run_measurement done (openSlot s.nextSlot s.popSlot)
  rw [State.sameSnapshot, ← tready, ← tsp, ← tsh, hready, hsp, hsh, hperiod, hhigh] at htaken
  refine ⟨tprev.trans (hprev'.trans hprev), tphase.trans (hphase'.trans hphase),
    tperiod.trans (hperiod'.trans hperiod), thigh.trans (hhigh'.trans hhigh), ?_⟩
  obtain ⟨hkept, hsame⟩ | ⟨hmem, hs, ht, htp, hth⟩ := htaken
  · exact ⟨hkept.symm.trans, fun hchanged => absurd ⟨hsame, hkept⟩ hchanged⟩
  · exact ⟨fun _ => hs, fun _ => ⟨hwork.consume_source hmem, hs, htp, hth⟩⟩

/-! ### The marks -/

/-- No step of the sequencer clears the mark or changes a recorded cause (R32). -/
theorem runOp_keeps_ill (op : MicroOp) {s : State} (h : s.ill = true) : s.sameStatus (runOp op s) := by
  cases op with
  | illegal c => simp [State.sameStatus, runOp, illegalCommand, h]
  | _ => simp [State.sameStatus, runOp]

theorem run_keeps_ill (ops : List MicroOp) {s : State} (h : s.ill = true) : s.sameStatus (run ops s) := by
  induction ops generalizing s with
  | nil => exact ⟨rfl, rfl⟩
  | cons op ops ih =>
    obtain ⟨hill, hcause⟩ := runOp_keeps_ill op h
    obtain ⟨hill', hcause'⟩ := ih (hill.trans h)
    exact ⟨hill'.trans hill, hcause'.trans hcause⟩

/-- A slot without reset keeps a mark that is set, with its cause (R32). -/
theorem step_keeps_ill {s t : State} (h : step s = .next t) (hr : s.nextSlot.rst = false) (hill : s.ill = true) :
    s.sameStatus t := by
  obtain ⟨done, _, hblock⟩ := step_block h hr
  obtain ⟨hmark, hcause⟩ := run_keeps_ill done (s := openSlot s.nextSlot s.popSlot) (by simpa using hill)
  obtain ⟨_, _, ⟨tmark, tcause⟩, _⟩ := same_of_block hblock
  exact ⟨tmark.trans (hmark.trans (by simp)), tcause.trans (hcause.trans (by simp))⟩

/-- An illegal word of an idle slot is IllegalCommand, after the slot's event (R201). -/
theorem step_of_illegal_word {s : State} {w : Word} {c : Cause} (hok : s.cfg.ok = true) (hi : s.idle = true)
    (hr : s.nextSlot.rst = false) (hw : s.nextSlot.cmd = some w) (hd : decode w = .error c) :
    step s = .next (illegalCommand c (openSlot s.nextSlot s.popSlot)) :=
  (step_of_ok hok).trans ((playSlot_of_word (s := s.popSlot) hr hi hw).trans (acceptWord_of_error hd _ _))

/-- Settles O54: only IllegalCommand writes the marks, it keeps a mark that is set, and no legal program holds it. -/
theorem illegalMarkIsSticky : Obligations.IllegalMarkIsSticky := by
  refine ⟨fun s t h hr hill => ?_, fun i s hwf => ⟨_, exec_eq_run i s, run_programOf_sameStatus hwf s⟩,
    fun s hok hr => ⟨_, (step_of_ok hok).trans (playSlot_of_rst _ _ hr), rfl, rfl⟩,
    fun s w c hok hi hr hw hd => ⟨_, step_of_illegal_word hok hi hr hw hd, rfl, fun h => ?_, fun h => ?_⟩⟩
  · obtain ⟨hmark, hcause⟩ := step_keeps_ill h hr hill
    exact ⟨hmark.trans hill, hcause⟩
  · simp [illegalCommand, h]
  · simp [illegalCommand, h]

end Sys2Proof.Machine
end

section
/-! The register invariant (spec/10_state.md R24, R25, R32, spec/43_edge_capture.md R164): each way a slot writes a
register keeps it. -/

namespace Sys2Proof.Machine

/-- The part of `State.regInv` that is about registers: all but the outstanding steps. -/
def State.regsOk (s : State) : Bool := s.cfg.ok && s.ticksOk && s.waveOk && s.statusOk

theorem regInv_iff (s : State) : s.regInv = true ↔ s.regsOk = true ∧ s.remaining.all MicroOp.ok = true :=
  Bool.and_eq_true_iff

/-- The invariant of the registers sees nothing that a transaction changes. -/
theorem regsOk_block (s : State) : s.block.regsOk = s.regsOk := rfl

theorem regsOk_congr {s t : State} (h : t.block = s.block) : t.regsOk = s.regsOk :=
  (regsOk_block t).symm.trans ((congrArg State.regsOk h).trans (regsOk_block s))

theorem regsOk_iff (s : State) :
    s.regsOk = true ↔ s.cfg.ok = true ∧ s.ticksOk = true ∧ s.waveOk = true ∧ s.statusOk = true := by
  simp [State.regsOk, and_assoc]

theorem ticksOk_iff (s : State) :
    s.ticksOk = true ↔ tickOk s.cfg s.prevRise = true ∧ tickOk s.cfg s.periodTicks = true ∧
      tickOk s.cfg s.highTicks = true ∧ tickOk s.cfg s.snapPeriod = true ∧ tickOk s.cfg s.snapHigh = true ∧
      tickOk s.cfg s.tsCounter = true := by
  simp [State.ticksOk, and_assoc]

/-! ### Values in range -/

/-- A number reduced modulo 2^TS_W is a tick value (R164). -/
theorem tickOk_ofNat_mod (cfg : Config) (n : Nat) : tickOk cfg (BitVec.ofNat 32 (n % 2 ^ cfg.tsW)) = true := by
  have hlt : n % 2 ^ cfg.tsW < 2 ^ cfg.tsW := Nat.mod_lt _ (Nat.two_pow_pos _)
  simpa [tickOk] using (Nat.mod_le _ _).trans_lt hlt

theorem tickOk_zero (cfg : Config) : tickOk cfg 0 = true := by simp [tickOk]

/-- The phase counter counts modulo the pixel-period (R142). -/
theorem sampleStep_waveOk {duty : Nat} {s : State} (h : s.waveOk = true) : (sampleStep duty s).waveOk = true := by
  simp only [State.waveOk, decide_eq_true_eq, BitVec.lt_def] at h
  have hmod : (s.waveT.toNat + 1) % s.pixelPeriod.toNat < s.pixelPeriod.toNat := Nat.mod_lt _ (by omega)
  simpa [State.waveOk, BitVec.lt_def, sampleStep] using (Nat.mod_le _ _).trans_lt hmod

theorem illegalCommand_statusOk {c : Cause} {s : State} (h : s.statusOk = true) :
    (illegalCommand c s).statusOk = true := by
  cases hill : s.ill with
  | true => simpa [State.statusOk, illegalCommand, hill] using h
  | false => cases c <;> simp [State.statusOk, illegalCommand, hill, Cause.code]

theorem consumeStep_ticksOk {s : State} (h : s.ticksOk = true) : (consumeStep s).ticksOk = true := by
  rw [ticksOk_iff] at h ⊢
  obtain ⟨hprev, hperiod, hhigh, hsp, hsh, hts⟩ := h
  obtain ⟨htaken, hsame⟩ := consumeStep_measurement s
  cases hready : s.measReady with
  | true =>
    obtain ⟨hp, hh⟩ := htaken hready
    simp [hp, hh, hprev, hperiod, hhigh, hts]
  | false =>
    obtain ⟨hp, hh⟩ := hsame hready
    simp [hp, hh, hprev, hperiod, hhigh, hsp, hsh, hts]

/-! ### The parts of a slot -/

/-- A step of the sequencer keeps the registers legal, unless it would write a pixel-period of 0 (R25). -/
theorem runOp_regsOk {op : MicroOp} {s : State} (hop : op.ok = true) (h : s.regsOk = true) :
    (runOp op s).regsOk = true := by
  obtain ⟨hcfg, hticks, hwave, hstatus⟩ := (regsOk_iff s).mp h
  cases op with
  | bus t => exact (regsOk_congr (transact_block t s)).trans h
  | setPeriod per =>
    have hne : per ≠ 0 := of_decide_eq_true hop
    have hper : 0 < per := by bv_omega
    exact (regsOk_iff _).mpr ⟨hcfg, hticks, decide_eq_true hper, hstatus⟩
  | sample duty => exact (regsOk_iff _).mpr ⟨hcfg, hticks, sampleStep_waveOk hwave, hstatus⟩
  | consume =>
    exact (regsOk_iff _).mpr ⟨by simpa [runOp] using hcfg, consumeStep_ticksOk hticks,
      by simpa [runOp, State.waveOk] using hwave, by simpa [runOp, State.statusOk] using hstatus⟩
  | illegal c => exact (regsOk_iff _).mpr ⟨hcfg, hticks, hwave, illegalCommand_statusOk hstatus⟩
  | setCursor | derive | readReg => exact h

theorem run_regsOk {ops : List MicroOp} {s : State} (hops : ops.all MicroOp.ok = true) (h : s.regsOk = true) :
    (run ops s).regsOk = true := by
  induction ops generalizing s with
  | nil => exact h
  | cons op ops ih =>
    obtain ⟨hop, hops⟩ : op.ok = true ∧ ops.all MicroOp.ok = true := by simpa using hops
    exact ih hops (runOp_regsOk hop h)

/-- An edge event with a timestamp in width keeps the tick registers in width (R161, R162, R164). -/
theorem captureEvent_ticksOk {rising : Bool} {T : Word} {s : State} (hT : tickOk s.cfg T = true)
    (h : s.ticksOk = true) : (captureEvent rising T s).ticksOk = true := by
  have hsub : tickOk s.cfg (tickSub s.cfg T s.prevRise) = true := tickOk_ofNat_mod _ _
  rw [ticksOk_iff] at h ⊢
  unfold captureEvent
  split <;> simp [h, hT, hsub]

theorem openSlot_ticksOk {sl : Slot} {s : State} (h : s.ticksOk = true) : (openSlot sl s).ticksOk = true := by
  have hts : tickOk s.cfg (advanceCounter s.cfg sl.ticks s.tsCounter) = true := tickOk_ofNat_mod _ _
  have hticked : ({ s with
      pins := { s.pins with rstN := true }
      tsCounter := advanceCounter s.cfg sl.ticks s.tsCounter } : State).ticksOk = true := by
    rw [ticksOk_iff] at h ⊢
    simp [h, hts]
  unfold openSlot
  split
  · exact captureEvent_ticksOk hts hticked
  · exact hticked

theorem openSlot_regsOk {sl : Slot} {s : State} (h : s.regsOk = true) : (openSlot sl s).regsOk = true := by
  obtain ⟨hcfg, hticks, hwave, hstatus⟩ := (regsOk_iff s).mp h
  exact (regsOk_iff _).mpr ⟨by simpa using hcfg, openSlot_ticksOk hticks, by simpa [State.waveOk] using hwave,
    by simpa [State.statusOk] using hstatus⟩

theorem Config.ok_pixelPeriodReset {c : Config} (h : c.ok = true) : c.pixelPeriodReset ≠ 0 := by
  simp only [Config.ok, Config.rangesOk, Bool.and_eq_true, decide_eq_true_eq] at h
  exact h.1.1.1.1.2

/-- Reset gives every register a legal value (R220). -/
theorem blockReset_regsOk {sl : Slot} {s : State} (h : s.cfg.ok = true) : (blockReset sl s).regsOk = true := by
  have hzero := tickOk_zero s.cfg
  have hts : tickOk s.cfg (advanceCounter s.cfg sl.ticks s.tsCounter) = true := tickOk_ofNat_mod _ _
  have hne : s.cfg.pixelPeriodReset ≠ 0 := Config.ok_pixelPeriodReset h
  have hperiod : 0 < s.cfg.pixelPeriodReset := by bv_omega
  exact (regsOk_iff _).mpr ⟨h, (ticksOk_iff _).mpr ⟨hzero, hzero, hzero, hzero, hzero, hts⟩, decide_eq_true hperiod, rfl⟩

/-! ### Every slot -/

/-- No program writes a pixel-period of 0 (R141). -/
theorem programOf_ok (i : Instr) (s : State) : (programOf i s).all MicroOp.ok = true := by
  refine List.all_eq_true.mpr fun op hmem => ?_
  cases op with
  | setPeriod per => simpa [MicroOp.ok] using (programOf_mayIssue hmem).1
  | _ => rfl

/-- The steps made in a slot and those left keep PIXEL_PERIOD legal, if the outstanding ones do (R25). -/
theorem State.SlotWork.ok {s : State} {done left : List MicroOp} (h : s.SlotWork done left)
    (hrem : s.remaining.all MicroOp.ok = true) : done.all MicroOp.ok = true ∧ left.all MicroOp.ok = true := by
  cases h with
  | illegal => exact ⟨rfl, rfl⟩
  | @command w i _ _ _ _ _ hprog =>
    have hok := programOf_ok i (openSlot s.nextSlot s.popSlot)
    rwa [hprog, List.all_append, Bool.and_eq_true] at hok
  | outstanding hsplit => rwa [hsplit, List.all_append, Bool.and_eq_true] at hrem

/-- Settles O11: a reset gives legal values; any other slot takes its event and makes steps of the sequencer, and each of
these keeps the invariant. -/
theorem stepKeepsRegisterInvariant : Obligations.StepKeepsRegisterInvariant := by
  intro s t hinv h
  obtain ⟨hregs, hrem⟩ := (regInv_iff s).mp hinv
  rcases Bool.eq_false_or_eq_true s.nextSlot.rst with hr | hr
  · obtain ⟨hcfg, _⟩ := (regsOk_iff s).mp hregs
    rw [step_of_ok hcfg, playSlot_of_rst _ _ hr] at h
    cases h
    exact ⟨(regInv_iff _).mpr ⟨blockReset_regsOk hcfg, rfl⟩, rfl⟩
  · obtain ⟨done, hwork, hblock⟩ := step_block h hr
    obtain ⟨hdone, hleft⟩ := hwork.ok hrem
    obtain ⟨_, _, _, hcfg⟩ := same_of_block hblock
    have hopen : (openSlot s.nextSlot s.popSlot).regsOk = true := openSlot_regsOk hregs
    exact ⟨(regInv_iff t).mpr ⟨(regsOk_congr hblock).trans (run_regsOk hdone hopen), hleft⟩, by simpa using hcfg⟩

end Sys2Proof.Machine
end

section
/-! The bus invariant (spec/10_state.md R35, spec/20_memory.md R53-R55): the phases of a transaction keep the pins at its
levels, and its end brings them back to the idle levels. -/

namespace Sys2Proof.Machine

theorem busInv_of_no_flight {s : State} (h : s.flight = none) : s.busInv = s.pinsIdle := by simp [State.busInv, h]

theorem busInv_of_flight {s : State} {f : Flight} (h : s.flight = some f) : s.busInv = s.flightPinsOk f := by
  simp [State.busInv, h]

/-- Releasing the bus brings the idle levels (R35). -/
@[simp] theorem releaseBus_pinsIdle (s : State) : (releaseBus s).pinsIdle = true := by
  simp [State.pinsIdle, Pins.idle, State.cs1Asserted, State.cs2Asserted]

theorem releaseBus_busInv {s : State} (h : s.flight = none) : (releaseBus s).busInv = true := by
  rw [busInv_of_no_flight (by simpa using h), releaseBus_pinsIdle]

/-- A reset releases the bus (R220, R224). -/
theorem blockReset_busInv (sl : Slot) (s : State) : (blockReset sl s).busInv = true := releaseBus_pinsIdle s

/-- `lcd_rst_n`, the counter and an edge event are no part of the bus invariant. -/
@[simp] theorem openSlot_busInv (sl : Slot) (s : State) : (openSlot sl s).busInv = s.busInv := by
  unfold State.busInv
  rw [openSlot_flight]
  cases s.flight with
  | none => simp [State.pinsIdle, State.cs1Asserted, State.cs2Asserted]
  | some f =>
    obtain ⟨t, stage, left⟩ := f
    cases t <;> simp [State.flightPinsOk, Txn.linesOk, State.cs1Asserted, State.cs2Asserted]

/-! ### The steps of the sequencer, at once -/

theorem runOp_pinsIdle (op : MicroOp) {s : State} (h : s.pinsIdle = true) : (runOp op s).pinsIdle = true := by
  cases op with
  | bus t => exact releaseBus_pinsIdle _
  | consume => simpa [State.pinsIdle, State.cs1Asserted, State.cs2Asserted, runOp] using h
  | _ => exact h

theorem run_pinsIdle (ops : List MicroOp) {s : State} (h : s.pinsIdle = true) : (run ops s).pinsIdle = true := by
  induction ops generalizing s with
  | nil => exact h
  | cons op ops ih => exact ih (runOp_pinsIdle op h)

@[simp] theorem run_flight (ops : List MicroOp) (s : State) : (run ops s).flight = s.flight := by
  obtain ⟨_, _, _, _, _, hflight, _⟩ := run_frame ops s
  exact hflight

theorem run_busInv (ops : List MicroOp) {s : State} (hflight : s.flight = none) (h : s.pinsIdle = true) :
    (run ops s).busInv = true := by
  rw [busInv_of_no_flight (by simpa using hflight), run_pinsIdle ops h]

/-- The end of a transaction leaves none in progress and the bus released (R53). -/
theorem finishFlight_idle (f : Flight) (s : State) :
    (finishFlight f s).flight = none ∧ (finishFlight f s).pinsIdle = true := by
  unfold finishFlight
  split
  · exact ⟨rfl, releaseBus_pinsIdle _⟩
  · exact ⟨transact_flight _ _, releaseBus_pinsIdle _⟩

/-! ### The cycles of a transaction -/

@[simp] theorem linesOk_withEnable (t : Txn) (p : Pins) (e : Bool) : t.linesOk { p with e := e } = t.linesOk p := by
  cases t <;> rfl

@[simp] theorem linesOk_selectChip (t : Txn) (c : Config) (k : Option Chip) (p : Pins) :
    t.linesOk (p.selectChip c k) = t.linesOk p := by
  obtain _ | _ | _ := k <;> cases t <;> rfl

/-- Step 2 of R53 asserts the chip-select of the chip named, and no other. -/
theorem selectChip_asserts (c : Config) (k : Option Chip) (p : Pins) :
    ((p.selectChip c k).cs1 == c.csActiveHigh) = decide (k = some .one) ∧
      ((p.selectChip c k).cs2 == c.csActiveHigh) = decide (k = some .two) ∧ (p.selectChip c k).e = p.e := by
  obtain _ | _ | _ := k <;> simp [Pins.selectChip]

theorem flightPinsOk_iff (s : State) (f : Flight) :
    s.flightPinsOk f = true ↔ f.txn.linesOk s.pins = true ∧
      s.cs1Asserted = (decide (f.stage ≠ .mode) && decide (f.txn.chip = some .one)) ∧
      s.cs2Asserted = (decide (f.stage ≠ .mode) && decide (f.txn.chip = some .two)) ∧
      s.pins.e = decide (f.stage = .enable) := by
  simp only [State.flightPinsOk, Bool.and_eq_true, beq_iff_eq, and_assoc]

/-- Step 1 of R53, from the idle levels: the transaction's lines, no chip-select, `lcd_e` low. -/
theorem startTxn_busInv (t : Txn) {s : State} (h : s.pinsIdle = true) : (startTxn t s).busInv = true := by
  rw [busInv_of_flight (f := ⟨t, .mode, 0⟩) rfl]
  simp only [State.pinsIdle, State.cs1Asserted, State.cs2Asserted, Bool.and_eq_true, Bool.not_eq_true'] at h
  obtain ⟨⟨⟨⟨⟨_, _⟩, he⟩, hcs1⟩, hcs2⟩, _⟩ := h
  cases t <;> simp [State.flightPinsOk, Txn.linesOk, State.cs1Asserted, State.cs2Asserted, Pins.drive, he, hcs1, hcs2]

/-- Each cycle of a transaction leads from the levels of its step to those of the next, or to the idle levels
(R53). -/
theorem tickFlight_busInv {f : Flight} {s : State} (hf : s.flight = some f) (h : s.busInv = true) :
    (tickFlight f s).busInv = true := by
  rw [busInv_of_flight hf] at h
  obtain ⟨t, stage, left⟩ := f
  cases left with
  | succ n => exact h
  | zero =>
    obtain ⟨hlines, hcs1, hcs2, he⟩ := (flightPinsOk_iff s _).mp h
    cases stage with
    | mode =>
      obtain ⟨hone, htwo, hkept⟩ := selectChip_asserts s.cfg t.chip s.pins
      rw [busInv_of_flight (f := ⟨t, .select, s.cfg.tSetup - 1⟩) rfl, flightPinsOk_iff]
      exact ⟨by simpa [tickFlight] using hlines, by simpa [tickFlight, State.cs1Asserted] using hone,
        by simpa [tickFlight, State.cs2Asserted] using htwo, hkept.trans he⟩
    | select =>
      rw [busInv_of_flight (f := ⟨t, .enable, s.cfg.tPw - 1⟩) rfl, flightPinsOk_iff]
      exact ⟨by simpa [tickFlight] using hlines, hcs1, hcs2, rfl⟩
    | enable =>
      rw [busInv_of_flight (f := ⟨t, .hold, s.cfg.tHold - 1⟩) (by simp [tickFlight]), flightPinsOk_iff]
      exact ⟨by simpa [tickFlight] using hlines, by simpa [tickFlight, State.cs1Asserted] using hcs1,
        by simpa [tickFlight, State.cs2Asserted] using hcs2, by simp [tickFlight]⟩
    | hold => exact releaseBus_busInv rfl

/-! ### Every slot -/

theorem tickCycle_busInv {s : State} (h : s.busInv = true) : (tickCycle s).busInv = true := by
  unfold tickCycle
  split
  next f hf => exact tickFlight_busInv hf h
  next t ops hf _ => exact startTxn_busInv t ((busInv_of_no_flight hf).symm.trans h)
  next op ops _ hf _ =>
    exact run_busInv [op] (s := { s with remaining := ops }) hf ((busInv_of_no_flight hf).symm.trans h)
  next => exact h

theorem finishStep_busInv {s : State} (h : s.busInv = true) : (finishStep s).busInv = true := by
  unfold finishStep
  split
  next f hf =>
    obtain ⟨hflight, hidle⟩ := finishFlight_idle f s
    exact (busInv_of_no_flight hflight).trans hidle
  next op ops hf _ =>
    exact run_busInv [op] (s := { s with remaining := ops }) hf ((busInv_of_no_flight hf).symm.trans h)
  next => exact h

theorem finishCommand_busInv {s : State} (h : s.busInv = true) : (finishCommand s).busInv = true := by
  unfold finishCommand
  split
  next f hf =>
    obtain ⟨hflight, hidle⟩ := finishFlight_idle f s
    exact run_busInv _ hflight hidle
  next hf => exact run_busInv _ hf ((busInv_of_no_flight hf).symm.trans h)

/-- The progress of a busy sequencer keeps the pins right, at every pace. -/
theorem progress_busInv (pace : Pace) {s : State} (h : s.busInv = true) : (progress pace s).busInv = true := by
  cases pace with
  | wait => exact h
  | cycle => exact tickCycle_busInv h
  | transaction => exact finishStep_busInv h
  | command => exact finishCommand_busInv h

@[simp] theorem deliver_busInv (s : State) : (deliver s).busInv = s.busInv := by
  unfold deliver; split <;> rfl

theorem step_keeps_busInv {s t : State} (hinv : s.busInv = true) (h : step s = .next t) : t.busInv = true := by
  obtain ⟨_, ⟨_, rfl⟩ | ⟨_, hcases⟩⟩ := step_cases h
  · exact blockReset_busInv _ _
  set u := openSlot s.nextSlot s.popSlot with hu
  have hinv : u.busInv = true := (openSlot_busInv _ _).trans hinv
  have hidle (hready : u.cmdReady = true) : u.flight = none := flight_of_idle (by simpa [hu] using hready)
  obtain ⟨_, w, c, _, _, rfl⟩ | ⟨hready, w, i, _, _, _, rfl⟩ | ⟨_, w, i, _, _, _, rfl⟩ | ⟨_, _, rfl⟩ |
    ⟨_, _, rfl⟩ | ⟨_, _, rfl⟩ := hcases
  · exact hinv
  · exact run_busInv _ (hidle hready) ((busInv_of_no_flight (hidle hready)).symm.trans hinv)
  · exact hinv
  · exact hinv
  · split <;> simpa using hinv
  · exact progress_busInv _ hinv

/-! ### What the invariant says of the pins -/

/-- The two chip-selects are never asserted together (R53). -/
theorem chipSelects_of_busInv {s : State} (h : s.busInv = true) : ¬(s.cs1Asserted = true ∧ s.cs2Asserted = true) := by
  rintro ⟨h1, h2⟩
  cases hf : s.flight with
  | none => simp [busInv_of_no_flight hf, State.pinsIdle, h1] at h
  | some f =>
    rw [busInv_of_flight hf, flightPinsOk_iff] at h
    obtain ⟨_, hcs1, hcs2, _⟩ := h
    rw [h1, eq_comm, Bool.and_eq_true, decide_eq_true_eq, decide_eq_true_eq] at hcs1
    rw [h2, eq_comm, Bool.and_eq_true, decide_eq_true_eq, decide_eq_true_eq] at hcs2
    cases hcs1.2.symm.trans hcs2.2

/-- The data bus is an input during a read only (R55). -/
theorem read_of_busInv {s : State} (h : s.busInv = true) (hoe : s.pins.dbOe = false) :
    ∃ k u st n, s.flight = some ⟨.read k u, st, n⟩ := by
  cases hf : s.flight with
  | none => simp [busInv_of_no_flight hf, State.pinsIdle, hoe] at h
  | some f =>
    rw [busInv_of_flight hf, flightPinsOk_iff] at h
    obtain ⟨hlines, _⟩ := h
    obtain ⟨t, stage, left⟩ := f
    cases t with
    | read k u => exact ⟨k, u, stage, left, rfl⟩
    | _ => simp [Txn.linesOk, hoe] at hlines

/-- Settles O13: the invariant is kept by every slot, and says both things of the pins. -/
theorem stepKeepsBusPins : Obligations.StepKeepsBusPins := by
  intro s t hinv h
  have hinv' := step_keeps_busInv hinv h
  exact ⟨hinv', chipSelects_of_busInv hinv', read_of_busInv hinv'⟩

end Sys2Proof.Machine
end

section
/-! The memory invariant (spec/20_memory.md R50): a data write stores inside the 1024 display bytes, in order of
address, and nothing else writes the memory. -/

namespace Sys2Proof.Machine

theorem memInv_congr {s t : State} (h : t.disp = s.disp) : t.memInv = s.memInv := by simp [State.memInv, h]

theorem transact_memInv (t : Txn) {s : State} (h : s.memInv = true) : (transact t s).memInv = true := busEffect_wf t h

/-- Only a transaction reaches the display (R37). -/
theorem runOp_memInv (op : MicroOp) {s : State} (h : s.memInv = true) : (runOp op s).memInv = true := by
  cases op with
  | bus t => exact transact_memInv t h
  | consume => exact (memInv_congr (consumeStep_disp s)).trans h
  | _ => exact h

theorem run_memInv (ops : List MicroOp) {s : State} (h : s.memInv = true) : (run ops s).memInv = true := by
  induction ops generalizing s with
  | nil => exact h
  | cons op ops ih => exact ih (runOp_memInv op h)

/-- Of the cycles of a transaction, the one in which `lcd_e` falls has its effect on the display (R53). -/
theorem tickFlight_memInv (f : Flight) {s : State} (h : s.memInv = true) : (tickFlight f s).memInv = true := by
  obtain ⟨x, stage, left⟩ := f
  cases left with
  | succ n => exact h
  | zero =>
    cases stage with
    | enable => exact busEffect_wf x h
    | _ => exact h

theorem finishFlight_memInv (f : Flight) {s : State} (h : s.memInv = true) : (finishFlight f s).memInv = true := by
  unfold finishFlight
  split
  · exact h
  · exact transact_memInv _ h

/-- The progress of a busy sequencer keeps the memory canonical, at every pace. -/
theorem progress_memInv (pace : Pace) {s : State} (h : s.memInv = true) : (progress pace s).memInv = true := by
  cases pace with
  | wait => exact h
  | cycle =>
    simp only [progress, tickCycle]
    split
    · exact tickFlight_memInv _ h
    · exact h
    · exact runOp_memInv _ h
    · exact h
  | transaction =>
    simp only [progress, finishStep]
    split
    · exact finishFlight_memInv _ h
    · exact runOp_memInv _ h
    · exact h
  | command =>
    simp only [progress, finishCommand]
    split
    · exact run_memInv _ (finishFlight_memInv _ h)
    · exact run_memInv _ h

/-- Settles O12: a reset empties the memory; any other slot opens without touching it, and then makes transactions and
register steps, each of which keeps the canonical form. -/
theorem stepKeepsMemoryCanonical : Obligations.StepKeepsMemoryCanonical := by
  intro s t hinv h
  obtain ⟨_, ⟨_, rfl⟩ | ⟨_, hcases⟩⟩ := step_cases h
  · exact Display.powerUp_wf _ _
  set u := openSlot s.nextSlot s.popSlot with hu
  have hinv : u.memInv = true := (memInv_congr (by simp [hu])).trans hinv
  obtain ⟨_, w, c, _, _, rfl⟩ | ⟨_, w, i, _, _, _, rfl⟩ | ⟨_, w, i, _, _, _, rfl⟩ | ⟨_, _, rfl⟩ |
    ⟨_, _, rfl⟩ | ⟨_, _, rfl⟩ := hcases
  · exact hinv
  · exact run_memInv _ hinv
  · exact hinv
  · exact hinv
  · refine (memInv_congr ?_).trans hinv
    split <;> simp
  · exact progress_memInv _ hinv

end Sys2Proof.Machine
end

section
/-! The address translation (spec/20_memory.md R51) and the addressed accesses (R56-R62): after `SetAddress` the
resolved chip's pointers name the addressed byte, so the data access that follows is one of that byte, whatever the
pointers held before. -/

namespace Sys2Proof.Machine

/-! ### The translation -/

theorem toNat_localOf (c : BitVec 7) : (localOf c).toNat = c.toNat % 64 := by
  simp [localOf, BitVec.extractLsb'_toNat]

theorem chipOf_of_lt {c : BitVec 7} (h : c.toNat < 64) : chipOf c = .one := if_pos h

theorem chipOf_of_le {c : BitVec 7} (h : 64 ≤ c.toNat) : chipOf c = .two := if_neg (Nat.not_lt.mpr h)

/-- Columns below 64 are chip 1's, at the same local column (R51). -/
theorem chip_local_of_lt {c : BitVec 7} (h : c.toNat < 64) : chipOf c = .one ∧ (localOf c).toNat = c.toNat :=
  ⟨chipOf_of_lt h, (toNat_localOf c).trans (Nat.mod_eq_of_lt h)⟩

/-- The other columns are chip 2's, at the local column 64 less (R51). -/
theorem chip_local_of_le {c : BitVec 7} (h : 64 ≤ c.toNat) : chipOf c = .two ∧ (localOf c).toNat = c.toNat - 64 := by
  have hc := c.isLt
  exact ⟨chipOf_of_le h, by rw [toNat_localOf]; omega⟩

/-- A column is its chip and its local column (R51). -/
theorem column_ext {c c' : BitVec 7} (hk : chipOf c = chipOf c') (hl : localOf c = localOf c') : c = c' := by
  have hloc : (localOf c).toNat = (localOf c').toNat := congrArg BitVec.toNat hl
  refine BitVec.eq_of_toNat_eq ?_
  rcases Nat.lt_or_ge c.toNat 64 with h | h <;> rcases Nat.lt_or_ge c'.toNat 64 with h' | h'
  · rwa [(chip_local_of_lt h).2, (chip_local_of_lt h').2] at hloc
  · simp [chipOf_of_lt h, chipOf_of_le h'] at hk
  · simp [chipOf_of_le h, chipOf_of_lt h'] at hk
  · rw [(chip_local_of_le h).2, (chip_local_of_le h').2] at hloc
    omega

theorem logicalAddr_inj {p p' : BitVec 3} {c c' : BitVec 7} (h : logicalAddr p c = logicalAddr p' c') :
    p = p' ∧ c = c' := by
  obtain ⟨hk, hp, hl⟩ := dispAddr_inj h
  exact ⟨hp, column_ext hk hl⟩

/-- Every local column of a chip has its logical column (R51). -/
theorem exists_column (k : Chip) (l : BitVec 6) : ∃ c : BitVec 7, chipOf c = k ∧ localOf c = l := by
  revert l
  cases k <;> decide

theorem exists_logicalAddr_eq_dispAddr (k : Chip) (p : BitVec 3) (l : BitVec 6) :
    ∃ c : BitVec 7, logicalAddr p c = dispAddr k p l := by
  obtain ⟨c, rfl, rfl⟩ := exists_column k l
  exact ⟨c, rfl⟩

/-- Every one of the 1024 numbers is the number of a display byte (R50). -/
theorem exists_dispAddr_eq {a : Nat} (h : a < 1024) : ∃ k p l, dispAddr k p l = a := by
  refine ⟨if a < 512 then .one else .two, BitVec.ofNat 3 (a / 64), BitVec.ofNat 6 a, ?_⟩
  split <;> simp only [dispAddr, BitVec.toNat_ofNat] <;> omega

/-- Settles O33: a column is its chip and local column, so the translation is one-to-one with the (chip, page, local)
triples, and these with the 1024 bytes. -/
theorem addressTranslationIsABijection : Obligations.AddressTranslationIsABijection := by
  refine ⟨fun c => ⟨chip_local_of_lt, chip_local_of_le⟩, fun p p' c c' => logicalAddr_inj,
    exists_logicalAddr_eq_dispAddr, fun a ha => ?_, by decide, by decide, by decide, by decide, by decide, by decide⟩
  obtain ⟨k, p, l, rfl⟩ := exists_dispAddr_eq ha
  exact ⟨p, exists_logicalAddr_eq_dispAddr k p l⟩

/-! ### Data accesses at a pointer that names the byte -/

/-- A data write changes the byte at the controller's pointer alone (R61). -/
theorem Display.byteAt_onWrite (cfg : Config) (k : Chip) (b : Byte) (d : Display) (a : Nat) :
    (d.onWrite cfg k b).byteAt a = if a = d.pointer k then b else d.byteAt a := by
  split
  next h => rw [h, Display.byteAt_onWrite_same]
  next h => exact Display.byteAt_onWrite_other cfg k b d h

@[simp] theorem Display.pointer_setCtl (d : Display) (k : Chip) (c : Controller) :
    (d.setCtl k c).pointer k = dispAddr k c.page c.col := by
  simp [Display.pointer]

section addressed
variable {s : State} (hok : s.cfg.ok = true) (hbases : s.cfg.basesDistinct = true)
  (hdisp : s.cfg.display = .conforming) (p : BitVec 3) (c : BitVec 7)
include hok hbases hdisp

/-- `SetAddress` makes the resolved chip's pointers name the addressed byte (R56). -/
theorem run_setAddress_pointer : (run (setAddressOps s.cfg p c) s).disp.pointer (chipOf c) = logicalAddr p c := by
  rw [run_setAddress_disp hok hbases hdisp, Display.pointer_setCtl]
  rfl

theorem run_setAddress_ramByte (a : Nat) : (run (setAddressOps s.cfg p c) s).ramByte a = s.ramByte a := by
  simp [State.ramByte, run_setAddress_disp hok hbases hdisp]

/-- `AddrWrite` sets the addressed byte and no other (R58, R62). -/
theorem run_addrWrite_ramByte (b : Byte) (a : Nat) :
    (run (addrWriteOps s.cfg p c b) s).ramByte a = if a = logicalAddr p c then b else s.ramByte a := by
  have hconf : (run (setAddressOps s.cfg p c) s).cfg.display = .conforming := by simpa using hdisp
  rw [addrWriteOps, run_append, run_cons, run_nil, runOp, State.ramByte, transact_write_disp _ _ _ hconf,
    Display.byteAt_onWrite, run_setAddress_pointer hok hbases hdisp]
  exact if_congr Iff.rfl rfl (run_setAddress_ramByte hok hbases hdisp p c a)

/-- `AddrRead` keeps the addressed byte for the renderer, if no dummy read moves the pointer on before (R59, R62). -/
theorem run_addrRead_latch (hdummy : s.cfg.dummyRead = false) :
    (run (addrReadOps s.cfg p c) s).rdLatch = s.ramByte (logicalAddr p c) := by
  have hconf : (run (setAddressOps s.cfg p c) s).cfg.display = .conforming := by simpa using hdisp
  simp only [addrReadOps, readDataOps, hdummy, Bool.false_eq_true, if_false, run_append, run_cons, run_nil, runOp]
  rw [transact_read_latch _ _ hconf, run_setAddress_pointer hok hbases hdisp,
    run_setAddress_ramByte hok hbases hdisp]

end addressed

/-- `AddrRead` makes no data write (R59). -/
theorem addrReadOps_isRead (cfg : Config) (p : BitVec 3) (c : BitVec 7) :
    ∀ op ∈ addrReadOps cfg p c, ∀ t, op = .bus t → t.isDataWrite = false := by
  simp only [addrReadOps, setAddressOps, readDataOps]
  split <;> simp [Txn.isDataWrite]

/-- `AddrRead` changes no display byte, in any configuration (R59). -/
theorem run_addrRead_sameMemory (s : State) (p : BitVec 3) (c : BitVec 7) :
    s.sameMemory (run (addrReadOps s.cfg p c) s) := fun a =>
  run_keeps (·.ramByte a) (fun op hmem u => runOp_sameMemory (addrReadOps_isRead s.cfg p c op hmem) u a) s

/-- Settles O34: the access goes to the byte that `SetAddress` pointed at. -/
theorem addressedAccess : Obligations.AddressedAccess := by
  intro s p c b hok hbases hdisp
  have hwritten := run_addrWrite_ramByte hok hbases hdisp p c b
  refine ⟨(hwritten _).trans (if_pos rfl), fun a ha => (hwritten a).trans (if_neg ha),
    run_addrRead_latch hok hbases hdisp p c, run_addrRead_sameMemory s p c, fun hdummy => ?_⟩
  set u := run (addrWriteOps s.cfg p c b) s
  have hcfg : u.cfg = s.cfg := run_cfg _ _
  rw [← hcfg] at hok hbases hdisp hdummy ⊢
  rw [run_addrRead_latch hok hbases hdisp p c hdummy, hwritten, if_pos rfl]

/-! ### Read-modify-write -/

/-- Every transaction of a list adds its record to the bus trace (R53). -/
theorem run_trace_length {ops : List MicroOp} (h : ops.all MicroOp.isBus = true) (s : State) :
    (run ops s).trace.length = s.trace.length + ops.length := by
  induction ops generalizing s with
  | nil => rfl
  | cons op ops ih =>
    obtain ⟨⟨t, rfl⟩, hops⟩ : (∃ t, op = .bus t) ∧ ops.all MicroOp.isBus = true :=
      ⟨eq_bus_of_mem h List.mem_cons_self, (Bool.and_eq_true_iff.mp h).2⟩
    rw [run_cons, ih hops, runOp, transact_trace_length, List.length_cons]
    omega

theorem length_rmwOrOps (cfg : Config) (r : Nat) (c : BitVec 7) :
    (rmwOrOps cfg r c).length = if cfg.dummyRead then 7 else 6 := by
  simp only [rmwOrOps, addrReadOps, readDataOps, setAddressOps]
  split <;> rfl

/-- `RmwOr` ORs the row's bit into the addressed byte and changes no other (R60). -/
theorem run_rmwOr_ramByte {s : State} (hok : s.cfg.ok = true) (hbases : s.cfg.basesDistinct = true)
    (hdisp : s.cfg.display = .conforming) (hdummy : s.cfg.dummyRead = false) (r : Nat) (c : BitVec 7) (a : Nat) :
    (run (rmwOrOps s.cfg r c) s).ramByte a =
      if a = logicalAddr (rowPage r) c then s.ramByte a ||| rowBit r else s.ramByte a := by
  set u := run (addrReadOps s.cfg (rowPage r) c) s with hu
  have hcfg : u.cfg = s.cfg := run_cfg _ _
  have hlatch : u.rdLatch = s.ramByte (logicalAddr (rowPage r) c) := run_addrRead_latch hok hbases hdisp _ c hdummy
  have hbytes : s.sameMemory u := run_addrRead_sameMemory s _ c
  rw [rmwOrOps, run_append, run_append, ← hu, ← hcfg, run_cons, run_nil, runOp, State.ramByte]
  rw [← hcfg] at hok hbases hdisp
  have hconf : (run (setAddressOps u.cfg (rowPage r) c) u).cfg.display = .conforming := by simpa using hdisp
  rw [transact_writeOr_disp _ _ _ hconf, Display.byteAt_onWrite, (run_setAddress_latch u _ c).1, hlatch,
    run_setAddress_pointer hok hbases hdisp]
  split
  next h => rw [h]
  next => exact (run_setAddress_ramByte hok hbases hdisp _ c a).trans (hbytes a)

/-- The bit of a pixel row is bit r mod 8 and no other (R52). -/
theorem getLsbD_rowBit (r j : Nat) (hj : j < 8) : (rowBit r).getLsbD j = decide (j = r % 8) := by
  have hr : r % 8 < 8 := Nat.mod_lt r (by decide)
  unfold rowBit
  generalize r % 8 = k at hr
  revert j k
  decide

/-- Settles O35: `RmwOr` is a list of six or seven transactions, and ORs one bit into one byte. -/
theorem rmwOrSetsOnePixel : Obligations.RmwOrSetsOnePixel := by
  intro s r c _
  refine ⟨by rw [run_trace_length (isBus_rmwOrOps s.cfg r c), length_rmwOrOps], fun hok hbases hdisp hdummy => ?_⟩
  have hbyte := run_rmwOr_ramByte hok hbases hdisp hdummy r c
  refine ⟨fun j hj => ?_, fun a ha => (hbyte a).trans (if_neg ha)⟩
  have hset := (hbyte (logicalAddr (rowPage r) c)).trans (if_pos rfl)
  rw [rowPage] at hset
  rw [hset, BitVec.getLsbD_or, getLsbD_rowBit r j hj, Bool.or_comm]

/-! ### The host's own commands -/

/-- A list of commands is each one's program, run where the one before ended (R67). -/
theorem execAll_cons (i : Instr) (is : List Instr) (s : State) :
    execAll (i :: is) s = execAll is (run (programOf i s) s) := by
  simp only [execAll, exec_eq_run]

/-- SET_ADDRESS, then WRITE_BYTE to the chip that owns the address, is an addressed write (R58, R102, R104). -/
theorem execAll_setAddress_writeByte {ch : BitVec 2} {col : BitVec 7} (hch : decodeChip ch = some (chipOf col))
    (pg : BitVec 3) (b : Byte) (is : List Instr) (s : State) :
    execAll (.setAddress pg col :: .writeByte ch b :: is) s = execAll is (run (addrWriteOps s.cfg pg col b) s) := by
  simp only [execAll_cons, programOf, progSetAddress, progWriteByte, hch, addrWriteOps, run_append]

/-- SET_ADDRESS, then READ_BYTE from the chip that owns the address, answers the addressed byte and changes none
(R59, R103, R104). -/
theorem execAll_setAddress_readByte {s : State} (hok : s.cfg.ok = true) (hbases : s.cfg.basesDistinct = true)
    (hdisp : s.cfg.display = .conforming) {ch : BitVec 2} {col : BitVec 7} (hch : decodeChip ch = some (chipOf col))
    (pg : BitVec 3) :
    ∃ t, execAll [.setAddress pg col, .readByte ch] s = some t ∧
      t.rsp = s.rsp ++ [(s.ramByte (logicalAddr pg col)).zeroExtend 32] ∧ s.sameMemory t := by
  set u := run (setAddressOps s.cfg pg col) s with hu
  have hconf : u.cfg.display = .conforming := by simpa [hu] using hdisp
  have hpointer : u.disp.pointer (chipOf col) = logicalAddr pg col := run_setAddress_pointer hok hbases hdisp pg col
  have hbytes : s.sameMemory u := run_setAddress_ramByte hok hbases hdisp pg col
  have hrsp : u.rsp = s.rsp := (run_setAddress_latch s pg col).2
  have hread : readByteOf (some (chipOf col)) u = s.ramByte (logicalAddr pg col) := by
    simp [readByteOf, hconf, hpointer, hbytes _]
  refine ⟨transact (.read (some (chipOf col)) .respond) u, ?_, ?_, fun a => ?_⟩
  · simp only [execAll_cons, programOf, progSetAddress, progReadByte, hch, ← hu]
    rfl
  · simp [transact, busEffect, useRead, hread, hrsp]
  · exact (transact_sameMemory rfl u a).trans (hbytes a)

/-- Settles O36: the first two commands are an addressed write, the last two an addressed read. -/
theorem writeThenReadReturnsTheByte : Obligations.WriteThenReadReturnsTheByte := by
  intro s pg col ch b hok hbases hdisp hch
  set u := run (addrWriteOps s.cfg pg col b) s with hu
  have hcfg : u.cfg = s.cfg := run_cfg _ _
  have hwritten := run_addrWrite_ramByte hok hbases hdisp pg col b
  have hrsp : u.rsp = s.rsp := by
    simp [hu, addrWriteOps, run_append, runOp, transact, busEffect, (run_setAddress_latch s pg col).2]
  rw [← hcfg] at hok hbases hdisp
  obtain ⟨t, hexec, hanswer, hbytes⟩ := execAll_setAddress_readByte hok hbases hdisp hch pg
  have hbyte : u.ramByte (logicalAddr pg col) = b := (hwritten _).trans (if_pos rfl)
  refine ⟨t, (execAll_setAddress_writeByte hch pg b _ s).trans hexec, by rw [hanswer, hbyte, hrsp],
    (hbytes _).trans hbyte, fun a ha => (hbytes a).trans ((hwritten a).trans (if_neg ha))⟩

end Sys2Proof.Machine
end

section
/-! A transaction carried out cycle by cycle (spec/20_memory.md R53, spec/70_reset_and_hazards.md R234): each phase is a
countdown that changes nothing else, and its last cycle begins the next phase. -/

namespace Sys2Proof.Machine

/-- What a transaction does beside its pins depends neither on the pins nor on how far it has come (R53). -/
theorem busEffect_with (x : Txn) (p : Pins) (f : Option Flight) (s : State) :
    busEffect x { s with pins := p, flight := f } = { busEffect x s with pins := p, flight := f } := by
  have hwrite (k : Option Chip) (b : Byte) :
      busWrData k b { s with pins := p, flight := f } = { busWrData k b s with pins := p, flight := f } := by
    unfold busWrData; dsimp only; split <;> rfl
  cases x with
  | cmd k b => simp only [busEffect, busCmd]; split <;> rfl
  | write k b => exact hwrite k b
  | writeOr k mask => exact hwrite k _
  | read k u => simp only [busEffect, busRdData]; cases u <;> split <;> rfl

theorem State.with_flight_self {s : State} {f : Option Flight} (h : s.flight = f) : { s with flight := f } = s := by
  subst h; rfl

/-! ### Phases -/

theorem tickCycle_of_flight {s : State} {f : Flight} (h : s.flight = some f) : tickCycle s = tickFlight f s := by
  unfold tickCycle; rw [h]

/-- The cycles of a phase before its last one only count (R234). -/
theorem iterate_tickCycle_count {x : Txn} {st : Stage} {left : Nat} (m : Nat) {s : State}
    (h : s.flight = some ⟨x, st, left + m⟩) : tickCycle^[m] s = { s with flight := some ⟨x, st, left⟩ } := by
  induction m generalizing s with
  | zero => exact (State.with_flight_self h).symm
  | succ m ih =>
    rw [Function.iterate_succ_apply, tickCycle_of_flight h]
    exact ih rfl

/-- The n-th cycle of a phase of n cycles begins the next one (R234). -/
theorem iterate_tickCycle_phase {x : Txn} {st : Stage} {n : Nat} (hn : 1 ≤ n) {s : State}
    (h : s.flight = some ⟨x, st, n - 1⟩) : tickCycle^[n] s = tickFlight ⟨x, st, 0⟩ s := by
  obtain ⟨m, rfl⟩ := Nat.exists_eq_add_of_le' hn
  have hcount : tickCycle^[m] s = { s with flight := some ⟨x, st, 0⟩ } := iterate_tickCycle_count m (by simpa using h)
  rw [Function.iterate_succ_apply', hcount, tickCycle_of_flight rfl]
  cases st <;> rfl

theorem iterate_tickCycle_add (a m : Nat) (s : State) : tickCycle^[a + m] s = tickCycle^[m] (tickCycle^[a] s) := by
  rw [Nat.add_comm, Function.iterate_add_apply]

/-- Within a phase of n cycles, begun after a cycles in a state t, the transaction stays in progress, and the pins keep
their levels (R53). -/
theorem iterate_tickCycle_within {x : Txn} {st : Stage} {a n m : Nat} {s t : State} (hbegin : tickCycle^[a] s = t)
    (hflight : t.flight = some ⟨x, st, n - 1⟩) (ha : a ≤ m) (hm : m < a + n) :
    (tickCycle^[m] s).flight.isSome = true ∧ (tickCycle^[m] s).remaining = t.remaining ∧
      (tickCycle^[m] s).pins = t.pins := by
  obtain ⟨j, rfl⟩ := Nat.exists_eq_add_of_le ha
  have hleft : n - 1 = (n - 1 - j) + j := by omega
  rw [iterate_tickCycle_add, hbegin, iterate_tickCycle_count j (hleft ▸ hflight)]
  exact ⟨rfl, rfl, rfl⟩

theorem Config.ok_phases {c : Config} (h : c.ok = true) : 1 ≤ c.tSetup ∧ 1 ≤ c.tPw ∧ 1 ≤ c.tHold := by
  simp only [Config.ok, Config.rangesOk, Bool.and_eq_true, decide_eq_true_eq] at h
  exact h.1.2

/-! ### The states in which the phases of a transaction begin -/

/-- The chip-select is asserted: the setup phase begins (R53). -/
def setupBegins (x : Txn) (s : State) : State := tickFlight ⟨x, .mode, 0⟩ (startTxn x s)

/-- `lcd_e` rises: the enable phase begins (R53). -/
def enableBegins (x : Txn) (s : State) : State := tickFlight ⟨x, .select, 0⟩ (setupBegins x s)

/-- `lcd_e` falls: the hold phase begins (R53). -/
def holdBegins (x : Txn) (s : State) : State := tickFlight ⟨x, .enable, 0⟩ (enableBegins x s)

@[simp] theorem setupBegins_flight (x : Txn) (s : State) :
    (setupBegins x s).flight = some ⟨x, .select, s.cfg.tSetup - 1⟩ := rfl

@[simp] theorem enableBegins_flight (x : Txn) (s : State) :
    (enableBegins x s).flight = some ⟨x, .enable, s.cfg.tPw - 1⟩ := rfl

@[simp] theorem holdBegins_flight (x : Txn) (s : State) :
    (holdBegins x s).flight = some ⟨x, .hold, s.cfg.tHold - 1⟩ := busEffect_flight _ _

@[simp] theorem holdBegins_remaining (x : Txn) (s : State) : (holdBegins x s).remaining = s.remaining :=
  busEffect_remaining _ _

@[simp] theorem drive_enable (x : Txn) (latch free : Byte) (p : Pins) : (p.drive x latch free).e = p.e := by
  cases x <;> rfl

@[simp] theorem setupBegins_enable (x : Txn) (s : State) : (setupBegins x s).pins.e = s.pins.e := by
  obtain ⟨_, _, hkept⟩ := selectChip_asserts s.cfg x.chip (startTxn x s).pins
  exact hkept.trans (drive_enable _ _ _ _)

@[simp] theorem enableBegins_enable (x : Txn) (s : State) : (enableBegins x s).pins.e = true := rfl

@[simp] theorem holdBegins_enable (x : Txn) (s : State) : (holdBegins x s).pins.e = false :=
  congrArg Pins.e (busEffect_pins _ _)

/-- The end of the hold phase leaves what the indivisible step leaves (R53). -/
theorem tickFlight_holdBegins {x : Txn} {s : State} (h : s.flight = none) :
    tickFlight ⟨x, .hold, 0⟩ (holdBegins x s) = transact x s := by
  have heffect : ∃ p f, holdBegins x s = { busEffect x s with pins := p, flight := f } :=
    ⟨_, _, busEffect_with x _ _ s⟩
  obtain ⟨p, f, heffect⟩ := heffect
  have hflight : { busEffect x s with flight := none } = busEffect x s :=
    State.with_flight_self ((busEffect_flight x s).trans h)
  rw [heffect, transact, ← hflight]
  rfl

/-! ### The whole transaction -/

section transaction
variable {s : State} (hflight : s.flight = none) (x : Txn) (ops : List MicroOp)
include hflight

theorem tickCycle_starts :
    tickCycle { s with remaining := .bus x :: ops } = startTxn x { s with remaining := ops } := by
  simp [tickCycle, hflight]

theorem iterate_tickCycle_setup :
    tickCycle^[2] { s with remaining := .bus x :: ops } = setupBegins x { s with remaining := ops } :=
  (congrArg tickCycle (tickCycle_starts hflight x ops)).trans (tickCycle_of_flight rfl)

variable (hok : s.cfg.ok = true)
include hok

theorem iterate_tickCycle_enable :
    tickCycle^[2 + s.cfg.tSetup] { s with remaining := .bus x :: ops } =
      enableBegins x { s with remaining := ops } := by
  obtain ⟨hsetup, _⟩ := Config.ok_phases hok
  rw [iterate_tickCycle_add, iterate_tickCycle_setup hflight]
  exact iterate_tickCycle_phase hsetup rfl

theorem iterate_tickCycle_hold :
    tickCycle^[2 + s.cfg.tSetup + s.cfg.tPw] { s with remaining := .bus x :: ops } =
      holdBegins x { s with remaining := ops } := by
  obtain ⟨_, hpw, _⟩ := Config.ok_phases hok
  rw [iterate_tickCycle_add, iterate_tickCycle_enable hflight x ops hok]
  exact iterate_tickCycle_phase hpw rfl

theorem iterate_tickCycle_end :
    tickCycle^[2 + s.cfg.tSetup + s.cfg.tPw + s.cfg.tHold] { s with remaining := .bus x :: ops } =
      transact x { s with remaining := ops } := by
  obtain ⟨_, _, hhold⟩ := Config.ok_phases hok
  rw [iterate_tickCycle_add, iterate_tickCycle_hold hflight x ops hok]
  have hbegun := holdBegins_flight x { s with remaining := ops }
  exact (iterate_tickCycle_phase hhold hbegun).trans (tickFlight_holdBegins hflight)

end transaction

theorem enable_low_of_pinsIdle {s : State} (h : s.pinsIdle = true) : s.pins.e = false := by
  simp only [State.pinsIdle, Bool.and_eq_true, Bool.not_eq_true'] at h
  obtain ⟨⟨⟨⟨_, he⟩, _⟩, _⟩, _⟩ := h
  exact he

/-- Settles O23: the cycle asked about is the one of step 1, or lies in the setup, the enable or the hold phase, in
which `lcd_e` is as it was when the phase began. -/
theorem transactionTakesItsCycles : Obligations.TransactionTakesItsCycles := by
  intro s x ops hok hflight hbus
  have hlow : s.pins.e = false := enable_low_of_pinsIdle ((busInv_of_no_flight hflight).symm.trans hbus)
  refine ⟨iterate_tickCycle_end hflight x ops hok, fun m hm hend => ?_⟩
  dsimp only at hend ⊢
  by_cases hsetup : m < 2
  · obtain rfl : m = 1 := by omega
    rw [Function.iterate_one, tickCycle_starts hflight, decide_eq_false (by omega)]
    exact ⟨rfl, rfl, (drive_enable x _ _ _).trans hlow⟩
  by_cases henable : m < 2 + s.cfg.tSetup
  · obtain ⟨hsome, hrem, hpins⟩ := iterate_tickCycle_within (iterate_tickCycle_setup hflight x ops)
      (setupBegins_flight _ _) (not_lt.mp hsetup) henable
    exact ⟨hsome, hrem, by rw [hpins, setupBegins_enable, hlow, decide_eq_false (by omega)]⟩
  by_cases hhold : m < 2 + s.cfg.tSetup + s.cfg.tPw
  · obtain ⟨hsome, hrem, hpins⟩ := iterate_tickCycle_within (iterate_tickCycle_enable hflight x ops hok)
      (enableBegins_flight _ _) (not_lt.mp henable) hhold
    exact ⟨hsome, hrem, by rw [hpins, enableBegins_enable, decide_eq_true (by omega)]⟩
  · obtain ⟨hsome, hrem, hpins⟩ := iterate_tickCycle_within (iterate_tickCycle_hold hflight x ops hok)
      (holdBegins_flight _ _) (not_lt.mp hhold) hend
    exact ⟨hsome, hrem.trans (holdBegins_remaining _ _), by rw [hpins, holdBegins_enable, decide_eq_false (by omega)]⟩

end Sys2Proof.Machine
end

section
/-! CONSUME and READ_REG read the capture registers in one indivisible step of their own, after the event of the slot
that makes it (spec/20_memory.md R70, spec/43_edge_capture.md R166, spec/44_register_access.md R181): what a slot does
while that step is outstanding. -/

namespace Sys2Proof.Machine

/-! ### The event of a slot -/

/-- A rising event awaited (R161). -/
theorem openSlot_rising {sl : Slot} {s : State} (he : sl.edge = some true) (hphase : s.phase = .awaitingRising) :
    let T := advanceCounter s.cfg sl.ticks s.tsCounter
    openSlot sl s = { s with
      pins := { s.pins with rstN := true }, tsCounter := T
      periodTicks := tickSub s.cfg T s.prevRise, prevRise := T, phase := .awaitingFalling } := by
  simp [openSlot, he, captureEvent, hphase]

/-- A falling event awaited (R162). -/
theorem openSlot_falling {sl : Slot} {s : State} (he : sl.edge = some false) (hphase : s.phase = .awaitingFalling) :
    let T := advanceCounter s.cfg sl.ticks s.tsCounter
    openSlot sl s = { s with
      pins := { s.pins with rstN := true }, tsCounter := T
      highTicks := tickSub s.cfg T s.prevRise, phase := .awaitingRising, measReady := true } := by
  simp [openSlot, he, captureEvent, hphase]

/-- An event sees neither the schedule nor the steps outstanding (R160). -/
theorem captureEvent_with (rising : Bool) (T : Word) (s : State) (l : List Slot) (ops : List MicroOp) :
    captureEvent rising T { s with inputs := l, remaining := ops } =
      { captureEvent rising T s with inputs := l, remaining := ops } := by
  unfold captureEvent; dsimp only; split <;> rfl

theorem openSlot_with (sl : Slot) (s : State) (l : List Slot) (ops : List MicroOp) :
    openSlot sl { s with inputs := l, remaining := ops } = { openSlot sl s with inputs := l, remaining := ops } := by
  unfold openSlot
  split
  · exact captureEvent_with _ _ { s with pins := _, tsCounter := _ } l ops
  · rfl

/-! ### A slot of a sequencer with one register step outstanding -/

/-- A busy sequencer with steps to make has no response to offer yet: its slot is progress (R34). -/
theorem step_of_outstanding {s : State} (hok : s.cfg.ok = true) (hr : s.nextSlot.rst = false)
    (hrem : s.remaining ≠ []) : step s = .next (progress s.nextSlot.pace (openSlot s.nextSlot s.popSlot)) := by
  have hbusy : s.popSlot.idle = false := by simp [State.idle, hrem]
  have hvalid : s.popSlot.rspValid = false := by simp [State.rspValid, hrem]
  rw [step_of_ok hok, playSlot_of_busy _ _ hr hbusy, hvalid]
  rfl

/-- A register step that is the last one outstanding is made at any pace at which the sequencer gets on (R11). -/
theorem progress_last {op : MicroOp} (hop : op.isBus = false) {pace : Pace} (hpace : pace ≠ .wait) {s : State}
    (hflight : s.flight = none) (hrem : s.remaining = [op]) :
    progress pace s = runOp op { s with remaining := [] } := by
  cases pace with
  | wait => exact absurd rfl hpace
  | cycle =>
    cases op with
    | bus t => simp [MicroOp.isBus] at hop
    | _ => simp [progress, tickCycle, hflight, hrem]
  | transaction => simp [progress, finishStep, hflight, hrem]
  | command => simp [progress, finishCommand, hflight, hrem]

theorem State.with_remaining_self {s : State} {ops : List MicroOp} (h : s.remaining = ops) :
    { s with remaining := ops } = s := by
  subst h; rfl

/-! ### CONSUME -/

/-- CONSUME with a measurement ready (R166). -/
theorem consumeStep_of_ready {s : State} (h : s.measReady = true) : consumeStep s = { s with
    snapPeriod := s.periodTicks, snapHigh := s.highTicks, measReady := false
    rsp := s.rsp ++ [1, s.periodTicks, s.highTicks] } := by
  simp [consumeStep, consumeHandoff, State.respond, h]

/-- CONSUME with no measurement ready (R166). -/
theorem consumeStep_of_not_ready {s : State} (h : s.measReady = false) :
    consumeStep s = { s with rsp := s.rsp ++ [0, s.snapPeriod, s.snapHigh] } := by
  simp [consumeStep, consumeHandoff, State.respond, h]

/-- The slot makes CONSUME's step on the state its event leaves, whether it accepts the word at pace `command` or finds
the step outstanding (R70). -/
theorem step_makes_consume {s : State} (hok : s.cfg.ok = true) (hr : s.nextSlot.rst = false)
    (h : (s.idle = true ∧ s.nextSlot.cmd = some 0x90000000 ∧ s.nextSlot.pace = .command) ∨
      (s.flight = none ∧ s.remaining = [.consume] ∧ s.nextSlot.pace ≠ .wait)) :
    step s = .next (consumeStep { openSlot s.nextSlot s.popSlot with remaining := [] }) := by
  obtain ⟨hidle, hword, hpace⟩ | ⟨hflight, hrem, hpace⟩ := h
  · have hdecode : decode 0x90000000 = .ok .consume := by decide
    have hnone : (openSlot s.nextSlot s.popSlot).remaining = [] := by simpa using remaining_of_idle hidle
    rw [step_of_ok hok, playSlot_of_word (s := s.popSlot) hr hidle hword, State.with_remaining_self hnone, hpace]
    simp only [acceptWord, hdecode]
    rfl
  · rw [step_of_outstanding hok hr (by simp [hrem]), progress_last (op := .consume) rfl hpace (by simpa using hflight)
      (by simpa using hrem)]
    rfl

/-- Settles O49: the event of the slot is taken as R161 and R162 say, and CONSUME's step follows on that state. -/
theorem consumeSeesTheEventOfItsSlot : Obligations.ConsumeSeesTheEventOfItsSlot := by
  intro s hok hr hmade
  have hstep := step_makes_consume hok hr hmade
  refine ⟨fun he hphase => ?_, fun he hphase hready => ?_, fun he hphase hready => ?_⟩
  · rw [openSlot_falling (s := s.popSlot) he hphase, consumeStep_of_ready rfl] at hstep
    exact ⟨_, hstep, rfl, rfl, rfl, rfl, rfl, rfl, rfl, rfl, rfl⟩
  · rw [openSlot_rising (s := s.popSlot) he hphase, consumeStep_of_ready] at hstep
    exacts [⟨_, hstep, rfl, rfl, rfl, rfl, rfl, rfl, rfl, rfl, rfl⟩, hready]
  · rw [openSlot_rising (s := s.popSlot) he hphase, consumeStep_of_not_ready] at hstep
    exacts [⟨_, hstep, rfl, ⟨rfl, rfl⟩, hready, rfl, rfl, rfl, rfl, rfl⟩, hready]

/-! ### A command of one register step, begun in one slot and carried out in a later one -/

/-- The program of CONSUME or READ_REG is one register step, the same from every state. -/
theorem programOf_consume_or_readReg {i : Instr} (h : i = .consume ∨ ∃ x, i = .readReg x) :
    ∃ op : MicroOp, op.isBus = false ∧ ∀ s, programOf i s = [op] := by
  obtain rfl | ⟨x, rfl⟩ := h
  · exact ⟨.consume, rfl, fun _ => rfl⟩
  · simp only [programOf, progReadReg]
    split
    · exact ⟨_, rfl, fun _ => rfl⟩
    · exact ⟨_, rfl, fun _ => rfl⟩

/-- A slot in which the sequencer stands still takes its event and no more (R230). -/
theorem step_of_stall {s : State} {sl : Slot} {l : List Slot} {op : MicroOp} (hok : s.cfg.ok = true)
    (h : sl.stalls = true) : step { s with inputs := sl :: l, remaining := [op] } =
      .next { openSlot sl s with inputs := l, remaining := [op] } := by
  obtain ⟨hr, hpace⟩ : sl.rst = false ∧ sl.pace = .wait := by simpa [Slot.stalls] using h
  refine (step_of_outstanding (s := { s with inputs := sl :: l, remaining := [op] }) hok hr (by simp)).trans
    (congrArg _ ?_)
  exact (congrArg (progress · _) hpace).trans (openSlot_with sl s l [op])

/-- The slot in which the sequencer gets on takes its event, and then makes the step (R70). -/
theorem step_makes_last {s : State} {sl : Slot} {l : List Slot} {op : MicroOp} (hop : op.isBus = false)
    (hok : s.cfg.ok = true) (hflight : s.flight = none) (hr : sl.rst = false) (hpace : sl.pace ≠ .wait) :
    step { s with inputs := sl :: l, remaining := [op] } =
      .next (runOp op { openSlot sl s with inputs := l, remaining := [] }) := by
  refine (step_of_outstanding (s := { s with inputs := sl :: l, remaining := [op] }) hok hr (by simp)).trans
    (congrArg _ ?_)
  refine (congrArg (progress sl.pace) (openSlot_with sl s l [op])).trans ?_
  exact progress_last hop hpace (by simpa using hflight) rfl

theorem run_succ_of_step {M : Host.Core} {s t : M.State} (h : M.step s = .next t) (k : Nat) :
    M.run (k + 1) s = M.run k t := by
  rw [Host.Core.run, h]

/-- After any slots in which the sequencer stands still the step sees all their events, and its own slot's (R70). -/
theorem run_stalls {op : MicroOp} (hop : op.isBus = false) {sl : Slot} (hr : sl.rst = false) (hpace : sl.pace ≠ .wait)
    (l : List Slot) {stalls : List Slot} (hstalls : stalls.all Slot.stalls = true) {s : State} (hok : s.cfg.ok = true)
    (hflight : s.flight = none) :
    Host.Core.run Sys2Proof.core (stalls.length + 1) { s with inputs := stalls ++ sl :: l, remaining := [op] } =
      .next (runOp op
        { (stalls ++ [sl]).foldl (fun t x => openSlot x t) s with inputs := l, remaining := [] }) := by
  induction stalls generalizing s with
  | nil => exact run_succ_of_step (M := Sys2Proof.core) (step_makes_last hop hok hflight hr hpace) 0
  | cons x xs ih =>
    obtain ⟨hx, hxs⟩ := Bool.and_eq_true_iff.mp hstalls
    exact (run_succ_of_step (M := Sys2Proof.core) (step_of_stall hok hx) _).trans
      (ih hxs (by simpa using hok) (by simpa using hflight))

@[simp] theorem foldl_openSlot_remaining (slots : List Slot) (s : State) :
    (slots.foldl (fun t x => openSlot x t) s).remaining = s.remaining := by
  induction slots generalizing s with
  | nil => rfl
  | cons x xs ih => exact (ih _).trans (openSlot_remaining x s)

/-- A word accepted at a pace other than `command` leaves the command's program outstanding (R34). -/
theorem step_begins {s : State} {w : Word} {i : Instr} (hok : s.cfg.ok = true) (hidle : s.idle = true)
    (hr : s.nextSlot.rst = false) (hw : s.nextSlot.cmd = some w) (hpace : s.nextSlot.pace ≠ .command)
    (hd : decode w = .ok i) : step s = .next (begin i (openSlot s.nextSlot s.popSlot)) := by
  rw [step_of_ok hok, playSlot_of_word (s := s.popSlot) hr hidle hw]
  simp only [acceptWord, hd]
  cases hp : s.nextSlot.pace with
  | command => exact absurd hp hpace
  | _ => rfl

/-- Settles O58: the command begins with its one register step outstanding, the stalls only take their events, and the
last slot makes the step. -/
theorem consumeAndReadRegReadAtTheirStep : Obligations.ConsumeAndReadRegReadAtTheirStep := by
  intro s w i first sl stalls rest hok hidle hinputs hfirst hw hpace hd hi hstalls hr hslpace
  obtain ⟨op, hop, hprog⟩ := programOf_consume_or_readReg hi
  have hnext : s.nextSlot = first := by simp [State.nextSlot, hinputs]
  set u := openSlot first s.popSlot with hu
  have hbegun : step s = .next { u with inputs := stalls ++ sl :: rest, remaining := [op] } := by
    have hschedule : u.inputs = stalls ++ sl :: rest := by simp [hu, hinputs]
    rw [← hnext] at hfirst hw hpace
    rw [step_begins hok hidle hfirst hw hpace hd, hnext, ← hu, begin, hprog, ← hschedule]
  have hnone : ((stalls ++ [sl]).foldl (fun t x => openSlot x t) u).remaining = [] := by
    simpa [hu] using remaining_of_idle hidle
  rw [run_succ_of_step (M := Sys2Proof.core) hbegun, run_stalls hop hr hslpace rest hstalls (by simpa [hu] using hok)
    (by simpa [hu] using flight_of_idle hidle), exec_eq_run, hprog, run_cons, run_nil, ← hnone]
  rfl

end Sys2Proof.Machine
end

section
/-! Words cut into slices (spec/30_encoding.md R81-R88): a word under the mask of a format, and the slices of a word
built in a format. The layouts are stated for fields and gaps of any width, and each format is one of them. -/

namespace Sys2Proof

open Machine

section slices
variable {w v n : Nat}

/-- A field at the lower end of a slice passes its mask. -/
theorem slice_and_field (x : BitVec w) (s : Nat) (m : BitVec v) :
    x.extractLsb' s (v + n) &&& (m ++ BitVec.allOnes n) = (x.extractLsb' (s + n) v &&& m) ++ x.extractLsb' s n := by
  rw [← BitVec.extractLsb'_append_extractLsb'_eq_extractLsb' rfl, BitVec.and_append, BitVec.and_allOnes]

/-- Reserved bits at the lower end of a slice are masked out. -/
theorem slice_and_gap (x : BitVec w) (s : Nat) (m : BitVec v) :
    x.extractLsb' s (v + n) &&& (m ++ 0#n) = (x.extractLsb' (s + n) v &&& m) ++ 0#n := by
  rw [← BitVec.extractLsb'_append_extractLsb'_eq_extractLsb' rfl, BitVec.and_append, BitVec.and_zero]

theorem slice_append_upper (x : BitVec v) (y : BitVec n) (s l : Nat) :
    (x ++ y).extractLsb' (n + s) l = x.extractLsb' s l := by
  rw [BitVec.extractLsb'_append_eq_of_le (Nat.le_add_right n s), Nat.add_sub_cancel_left]

theorem slice_append_from (x : BitVec v) (y : BitVec n) (l : Nat) : (x ++ y).extractLsb' n l = x.extractLsb' 0 l :=
  slice_append_upper x y 0 l

end slices

section layouts
variable {a b c d e : Nat}

theorem and_oneField (x : BitVec (a + b + c)) :
    x &&& (BitVec.allOnes a ++ 0#b ++ BitVec.allOnes c) = x.extractLsb' (c + b) a ++ 0#b ++ x.extractLsb' 0 c := by
  conv_lhs => rw [← BitVec.extractLsb'_eq_self (x := x)]
  simp only [slice_and_field, slice_and_gap, BitVec.and_allOnes, Nat.zero_add]

theorem and_fieldGap (x : BitVec (a + b + c + d)) :
    x &&& (BitVec.allOnes a ++ 0#b ++ BitVec.allOnes c ++ 0#d) =
      x.extractLsb' (d + c + b) a ++ 0#b ++ x.extractLsb' d c ++ 0#d := by
  conv_lhs => rw [← BitVec.extractLsb'_eq_self (x := x)]
  simp only [slice_and_field, slice_and_gap, BitVec.and_allOnes, Nat.zero_add]

theorem and_twoFields (x : BitVec (a + b + c + d + e)) :
    x &&& (BitVec.allOnes a ++ 0#b ++ BitVec.allOnes c ++ 0#d ++ BitVec.allOnes e) =
      x.extractLsb' (e + d + c + b) a ++ 0#b ++ x.extractLsb' (e + d) c ++ 0#d ++ x.extractLsb' 0 e := by
  conv_lhs => rw [← BitVec.extractLsb'_eq_self (x := x)]
  simp only [slice_and_field, slice_and_gap, BitVec.and_allOnes, Nat.zero_add]

theorem slices_oneField (op : BitVec a) (f : BitVec c) :
    let x := op ++ 0#b ++ f
    x.extractLsb' (c + b) a = op ∧ x.extractLsb' 0 c = f := by
  simp only [slice_append_upper, BitVec.extractLsb'_append_eq_left, BitVec.extractLsb'_append_eq_right, and_self]

theorem slices_fieldGap (op : BitVec a) (f : BitVec c) :
    let x := op ++ 0#b ++ f ++ 0#d
    x.extractLsb' (d + (c + b)) a = op ∧ x.extractLsb' d c = f := by
  simp only [slice_append_upper, slice_append_from, BitVec.extractLsb'_append_eq_right, BitVec.extractLsb'_eq_self,
    and_self]

theorem slices_twoFields (op : BitVec a) (f : BitVec c) (g : BitVec e) :
    let x := op ++ 0#b ++ f ++ 0#d ++ g
    x.extractLsb' (e + (d + (c + b))) a = op ∧ x.extractLsb' (e + d) c = f ∧ x.extractLsb' 0 e = g := by
  simp only [slice_append_upper, slice_append_from, BitVec.extractLsb'_append_eq_right, BitVec.extractLsb'_eq_self,
    and_self]

end layouts

/-! ### A word under the mask of a format -/

/-- `M` as a slice of one bit (R87). -/
theorem ofBool_fieldM (w : Word) : BitVec.ofBool (fieldM w) = w.extractLsb' 8 1 := by
  refine BitVec.eq_of_getLsbD_eq fun j hj => ?_
  obtain rfl : j = 0 := by omega
  simp [fieldM]

/-- A mask with the four bits of the opcode set leaves the opcode alone (R81). -/
theorem and_opcodeMask (w : Word) (m : BitVec 28) : w &&& (0xF#4 ++ m) = opcode w ++ (w.extractLsb' 0 28 &&& m) := by
  have hop : opcode w &&& 0xF#4 = opcode w := BitVec.and_allOnes
  conv_lhs => rw [← opcode_append w]
  exact BitVec.and_append.trans (congrArg (· ++ _) hop)

theorem and_formatN (w : Word) : w &&& (0xF#4 ++ 0#28) = opcode w ++ 0#28 := by
  rw [and_opcodeMask, BitVec.and_zero]

theorem and_formatB (w : Word) :
    w &&& (0xF#4 ++ 0x30000FF#28) = opcode w ++ 0#2 ++ fieldCH w ++ 0#16 ++ fieldByte w :=
  and_twoFields (a := 4) (b := 2) (c := 2) (d := 16) (e := 8) w

/-- READ_BYTE's reading of format B, with `DATA` reserved (R83). -/
theorem and_formatBRead (w : Word) : w &&& (0xF#4 ++ 0x3000000#28) = opcode w ++ 0#2 ++ fieldCH w ++ 0#24 :=
  and_fieldGap (a := 4) (b := 2) (c := 2) (d := 24) w

theorem and_formatA (w : Word) : w &&& (0xF#4 ++ 0x77F#28) = opcode w ++ 0#17 ++ fieldPG w ++ 0#1 ++ field7 w :=
  and_twoFields (a := 4) (b := 17) (c := 3) (d := 1) (e := 7) w

theorem and_formatC (w : Word) : w &&& (0xF#4 ++ 0xFF#28) = opcode w ++ 0#20 ++ fieldByte w :=
  and_oneField (a := 4) (b := 20) (c := 8) w

theorem and_formatP (w : Word) : w &&& (0xF#4 ++ 0x7F#28) = opcode w ++ 0#21 ++ field7 w :=
  and_oneField (a := 4) (b := 21) (c := 7) w

theorem and_formatS (w : Word) :
    w &&& (0xF#4 ++ 0x17F#28) = opcode w ++ 0#19 ++ BitVec.ofBool (fieldM w) ++ 0#1 ++ field7 w :=
  (and_twoFields (a := 4) (b := 19) (c := 1) (d := 1) (e := 7) w).trans (by rw [ofBool_fieldM]; rfl)

/-! ### The slices of a word built in a format -/

theorem slices_formatB (op : BitVec 4) (ch : BitVec 2) (data : Byte) :
    let w : Word := op ++ 0#2 ++ ch ++ 0#16 ++ data
    opcode w = op ∧ fieldCH w = ch ∧ fieldByte w = data :=
  slices_twoFields (a := 4) (b := 2) (c := 2) (d := 16) (e := 8) op ch data

theorem slices_formatBRead (op : BitVec 4) (ch : BitVec 2) :
    let w : Word := op ++ 0#2 ++ ch ++ 0#24
    opcode w = op ∧ fieldCH w = ch :=
  slices_fieldGap (a := 4) (b := 2) (c := 2) (d := 24) op ch

theorem slices_formatA (op : BitVec 4) (pg : BitVec 3) (col : BitVec 7) :
    let w : Word := op ++ 0#17 ++ pg ++ 0#1 ++ col
    opcode w = op ∧ fieldPG w = pg ∧ field7 w = col :=
  slices_twoFields (a := 4) (b := 17) (c := 3) (d := 1) (e := 7) op pg col

theorem slices_formatC (op : BitVec 4) (code : Byte) :
    let w : Word := op ++ 0#20 ++ code
    opcode w = op ∧ fieldByte w = code :=
  slices_oneField (a := 4) (b := 20) (c := 8) op code

theorem slices_formatP (op : BitVec 4) (per : BitVec 7) :
    let w : Word := op ++ 0#21 ++ per
    opcode w = op ∧ field7 w = per :=
  slices_oneField (a := 4) (b := 21) (c := 7) op per

theorem slices_formatS (op : BitVec 4) (m : BitVec 1) (duty : BitVec 7) :
    let w : Word := op ++ 0#19 ++ m ++ 0#1 ++ duty
    opcode w = op ∧ w.extractLsb' 8 1 = m ∧ field7 w = duty :=
  slices_twoFields (a := 4) (b := 19) (c := 1) (d := 1) (e := 7) op m duty

/-! ### Reserved bits -/

theorem and_not_eq_zero_iff {n : Nat} (x m : BitVec n) : x &&& ~~~m = 0 ↔ x &&& m = x := by
  simp only [BitVec.eq_of_getElem_eq_iff, BitVec.getElem_and, BitVec.getElem_not]
  exact forall₂_congr fun j hj => by simp

/-- No bit is set outside `m` exactly when masking with `m` changes nothing (R91). -/
theorem reserved_zero_iff (w : Word) (m : BitVec 28) :
    w.extractLsb' 0 28 &&& ~~~m = 0 ↔ w &&& (0xF#4 ++ m) = w := by
  rw [and_not_eq_zero_iff, and_opcodeMask]
  conv_rhs => rhs; rw [← opcode_append w]
  exact (BitVec.append_right_inj (opcode w)).symm

/-- A word matches a row whose mask leaves the bits `m` free exactly when it has the row's opcode and no bit set
outside `m` (R89). -/
theorem and_rowMask_iff (w : Word) (op : BitVec 4) (m : BitVec 28) :
    w &&& (0xF#4 ++ ~~~m) = op ++ 0#28 ↔ opcode w = op ∧ w &&& (0xF#4 ++ m) = w := by
  rw [and_opcodeMask, ← reserved_zero_iff]
  refine ⟨fun h => ?_, fun ⟨hop, hlow⟩ => by rw [hop, hlow]; rfl⟩
  have hop : opcode w = op := by
    simpa only [BitVec.extractLsb'_append_eq_left] using congrArg (BitVec.extractLsb' 28 4) h
  rw [hop] at h
  exact ⟨hop, (BitVec.append_right_inj op).mp h⟩

end Sys2Proof
end

section
/-! The rows of the opcode map (spec/30_encoding.md R89): the opcode of a row, its command with the operands read from a
word, and which words the row's match and mask let in. -/

namespace Sys2Proof

/-- The opcode of a command (R89). -/
def Instr.op : Instr → BitVec 4
  | .nop => 0x0
  | .sendCmd _ _ => 0x1
  | .writeByte _ _ => 0x2
  | .readByte _ => 0x3
  | .setAddress _ _ => 0x4
  | .gotoxy _ _ => 0x5
  | .displayChar _ => 0x6
  | .waveConfig _ => 0x7
  | .waveStep _ | .waveStepM => 0x8
  | .consume => 0x9
  | .derive => 0xA
  | .readReg _ => 0xB

/-- The command of the same row with its operands read from a word (R82-R88). -/
def Instr.readFrom (w : Word) : Instr → Instr
  | .sendCmd _ _ => .sendCmd (fieldCH w) (fieldByte w)
  | .writeByte _ _ => .writeByte (fieldCH w) (fieldByte w)
  | .readByte _ => .readByte (fieldCH w)
  | .setAddress _ _ => .setAddress (fieldPG w) (field7 w)
  | .gotoxy _ _ => .gotoxy (fieldPG w) (field7 w)
  | .displayChar _ => .displayChar (fieldByte w)
  | .waveConfig _ => .waveConfig (field7 w)
  | .waveStep _ => .waveStep (field7 w)
  | .readReg _ => .readReg (fieldByte w)
  | .nop => .nop
  | .waveStepM => .waveStepM
  | .consume => .consume
  | .derive => .derive

@[simp] theorem op_readFrom (w : Word) (i : Instr) : (i.readFrom w).op = i.op := by cases i <;> rfl

@[simp] theorem tableRow_readFrom (w : Word) (i : Instr) : (i.readFrom w).tableRow = i.tableRow := by cases i <;> rfl

@[simp] theorem rowConstraint_readFrom (w : Word) (i : Instr) : (i.readFrom w).rowConstraint = i.rowConstraint := by
  cases i <;> rfl

theorem op_lt (i : Instr) : i.op < 0xC := by cases i <;> simp [Instr.op]

/-- Two rows have one opcode, those of the render steps (R81). -/
theorem eq_render_of_op {i : Instr} (h : i.op = 8) : i = .waveStepM ∨ ∃ d, i = .waveStep d := by
  cases i with
  | waveStepM => exact .inl rfl
  | waveStep d => exact .inr ⟨d, rfl⟩
  | _ => simp [Instr.op] at h

/-- The word of a command, format by format: it has the command's opcode, and its fields are the operands (R82-R88). -/
theorem encode_format (i : Instr) : opcode (encode i) = i.op ∧ i.readFrom (encode i) = i := by
  cases i with
  | nop | waveStepM | consume | derive => decide
  | sendCmd ch data => obtain ⟨hop, hch, hdata⟩ := slices_formatB 0x1 ch data; exact ⟨hop, congrArg₂ _ hch hdata⟩
  | writeByte ch data => obtain ⟨hop, hch, hdata⟩ := slices_formatB 0x2 ch data; exact ⟨hop, congrArg₂ _ hch hdata⟩
  | readByte ch => obtain ⟨hop, hch⟩ := slices_formatBRead 0x3 ch; exact ⟨hop, congrArg _ hch⟩
  | setAddress pg col => obtain ⟨hop, hpg, hcol⟩ := slices_formatA 0x4 pg col; exact ⟨hop, congrArg₂ _ hpg hcol⟩
  | gotoxy pg col => obtain ⟨hop, hpg, hcol⟩ := slices_formatA 0x5 pg col; exact ⟨hop, congrArg₂ _ hpg hcol⟩
  | displayChar code => obtain ⟨hop, hcode⟩ := slices_formatC 0x6 code; exact ⟨hop, congrArg _ hcode⟩
  | waveConfig per => obtain ⟨hop, hper⟩ := slices_formatP 0x7 per; exact ⟨hop, congrArg _ hper⟩
  | waveStep duty => obtain ⟨hop, _, hduty⟩ := slices_formatS 0x8 0 duty; exact ⟨hop, congrArg _ hduty⟩
  | readReg idx => obtain ⟨hop, hidx⟩ := slices_formatC 0xB idx; exact ⟨hop, congrArg _ hidx⟩

theorem opcode_encode (i : Instr) : opcode (encode i) = i.op := (encode_format i).1

theorem readFrom_encode (i : Instr) : i.readFrom (encode i) = i := (encode_format i).2

theorem opcode_encode_lt (i : Instr) : opcode (encode i) < 0xC := (opcode_encode i).symm ▸ op_lt i

theorem fieldM_waveStep (d : BitVec 7) : fieldM (encode (.waveStep d)) = false := by
  have h : BitVec.ofBool (fieldM (encode (.waveStep d))) = 0#1 :=
    (ofBool_fieldM _).trans (slices_formatS 0x8 0 d).2.1
  cases hM : fieldM (encode (.waveStep d)) with
  | false => rfl
  | true => simp [hM] at h

/-- `M` is 0 in the row of WAVE_STEP, so its word has the layout of format P too (R87). -/
theorem encode_waveStep (d : BitVec 7) : encode (.waveStep d) = 0x8#4 ++ 0#21 ++ d := rfl

/-- Outside the render steps the free bits of a row are the field bits of its format (R89, R91). -/
theorem tableRow_of_op_ne {i : Instr} (h : i.op ≠ 8) :
    i.tableRow = (i.op ++ 0#28, 0xF#4 ++ ~~~(fieldMask i.op)) := by
  cases i with
  | waveStep d | waveStepM => exact absurd rfl h
  | _ => simp only [Instr.tableRow, Instr.op]; decide

/-- A word with the opcode of a row, its reserved bits cleared, is the word of the row's command with the operands that
stand in it. -/
theorem and_fieldMask {i : Instr} {w : Word} (hne : i.op ≠ 8) (h : opcode w = i.op) :
    w &&& (0xF#4 ++ fieldMask i.op) = encode (i.readFrom w) := by
  cases i with
  | nop | consume | derive => exact (and_formatN w).trans (by rw [h]; rfl)
  | sendCmd | writeByte => exact (and_formatB w).trans (by rw [h]; rfl)
  | readByte => exact (and_formatBRead w).trans (by rw [h]; rfl)
  | setAddress | gotoxy => exact (and_formatA w).trans (by rw [h]; rfl)
  | displayChar | readReg => exact (and_formatC w).trans (by rw [h]; rfl)
  | waveConfig => exact (and_formatP w).trans (by rw [h]; rfl)
  | waveStep | waveStepM => exact absurd rfl hne

/-- A row whose mask leaves the bits `m` free takes the words of its commands, if those bits hold the operands. -/
theorem row_iff_of_free {i : Instr} {w : Word} {m : BitVec 28} (hrow : i.tableRow = (i.op ++ 0#28, 0xF#4 ++ ~~~m))
    (hfree : opcode w = i.op → w &&& (0xF#4 ++ m) = encode (i.readFrom w)) :
    w &&& i.tableRow.2 = i.tableRow.1 ↔ encode (i.readFrom w) = w := by
  rw [hrow, and_rowMask_iff]
  refine ⟨fun ⟨hop, hw⟩ => (hfree hop).symm.trans hw, fun hw => ?_⟩
  have hop : opcode w = i.op := by rw [← op_readFrom w i, ← opcode_encode, hw]
  exact ⟨hop, (hfree hop).trans hw⟩

/-- A row takes exactly the words of its commands, whether or not the operands meet the value constraint (R89). -/
theorem row_iff (i : Instr) (w : Word) : w &&& i.tableRow.2 = i.tableRow.1 ↔ encode (i.readFrom w) = w := by
  by_cases hop : i.op = 8
  · obtain rfl | ⟨d, rfl⟩ := eq_render_of_op hop
    · exact (BitVec.and_allOnes (x := w)).congr_left.trans eq_comm
    · exact row_iff_of_free (m := 0x7F#28) (by simp only [Instr.tableRow, Instr.op]; decide)
        fun h => (and_formatP w).trans (by rw [h]; exact (encode_waveStep _).symm)
  · exact row_iff_of_free (tableRow_of_op_ne hop) (and_fieldMask hop)

theorem encode_in_row (i : Instr) : encode i &&& i.tableRow.2 = i.tableRow.1 :=
  (row_iff i _).mpr (congrArg encode (readFrom_encode i))

/-- On the word of a command the value constraint of its row says that the command is well-formed (R89). -/
theorem rowConstraint_encode (i : Instr) : i.rowConstraint (encode i) = i.wf := by
  have hfields := readFrom_encode i
  cases i with
  | waveConfig | waveStep | readReg =>
    injection hfields with hfield
    simp [Instr.rowConstraint, Instr.wf, hfield]
  | _ => rfl

end Sys2Proof
end

section
/-! The decoder (spec/30_encoding.md R91): its checks for reserved bits pass exactly the words of commands, and it
selects the row of the command. So it has three answers, each with a lemma: to a reserved opcode, to a word that is no
command's, and to a command's word. -/

namespace Sys2Proof

/-! ### The row the decoder selects -/

theorem selectRow_render {w : Word} (h : opcode w = 8) :
    selectRow w = if fieldM w then .waveStepM else .waveStep (field7 w) := by
  simp [selectRow, h]

/-- For every opcode but that of the render steps the decoder selects the one row of that opcode (R89). -/
theorem selectRow_of_op {i : Instr} {w : Word} (hne : i.op ≠ 8) (h : opcode w = i.op) : selectRow w = i.readFrom w := by
  cases i with
  | waveStep | waveStepM => exact absurd rfl hne
  | _ => simp [selectRow, h, Instr.op, Instr.readFrom]

theorem exists_row {op : BitVec 4} (h : op < 0xC) : ∃ i : Instr, i.op = op := by
  refine ⟨selectRow (op ++ 0#28), ?_⟩
  revert op
  decide

theorem selectRow_encode (i : Instr) : selectRow (encode i) = i := by
  by_cases hop : i.op = 8
  · rw [selectRow_render ((opcode_encode i).trans hop)]
    obtain rfl | ⟨d, rfl⟩ := eq_render_of_op hop
    · decide
    · rw [fieldM_waveStep]; exact readFrom_encode (.waveStep d)
  · rw [selectRow_of_op hop (opcode_encode i), readFrom_encode]

theorem encode_injective : Function.Injective encode := Function.LeftInverse.injective selectRow_encode

/-! ### The checks of the decoder -/

/-- The checks for reserved bits pass exactly the words that are the word of the command they select. -/
theorem checks_pass_iff {w : Word} (h : opcode w < 0xC) :
    (w.extractLsb' 0 28 &&& ~~~(fieldMask (opcode w)) = 0 ∧ ¬(opcode w = 0x8 ∧ fieldM w = true ∧ field7 w ≠ 0)) ↔
      encode (selectRow w) = w := by
  rw [reserved_zero_iff]
  by_cases h8 : opcode w = 8
  · have hmask : w &&& (0xF#4 ++ fieldMask 8) = _ := and_formatS w
    rw [selectRow_render h8, h8, hmask, h8]
    cases hM : fieldM w with
    | false => exact and_iff_left fun ⟨_, hM', _⟩ => Bool.false_ne_true hM'
    | true =>
      rw [if_pos rfl]
      refine ⟨fun ⟨hw, hduty⟩ => ?_, fun hw => by rw [← hw]; decide⟩
      have hzero : field7 w = 0 := by simpa using hduty
      rw [hzero] at hw
      exact hw
  · obtain ⟨i, hi⟩ := exists_row h
    rw [← hi] at h8
    rw [selectRow_of_op h8 hi.symm, ← hi, and_fieldMask h8 hi.symm]
    exact and_iff_left fun ⟨hop, _⟩ => h8 hop

/-- The cause of a command whose operands break the value constraint of its row (R201). -/
def Instr.operandCause : Instr → Cause
  | .readReg _ => .registerIndex
  | _ => .operandDomain

theorem decode_of_reserved {w : Word} (h : 0xC ≤ opcode w) : decode w = .error .reservedOpcode := if_pos h

theorem decode_of_no_encoding {w : Word} (hop : opcode w < 0xC) (h : ∀ i, encode i ≠ w) :
    decode w = .error .reservedBit := by
  have hchecks := mt (checks_pass_iff hop).mp (h _)
  unfold decode
  rw [if_neg (BitVec.not_le.mpr hop)]
  split_ifs with hbits hduty
  · rfl
  · rfl
  all_goals exact absurd ⟨not_not.mp hbits, hduty⟩ hchecks

/-- What the decoder answers to the word of a command, well-formed or not. -/
theorem decode_encode (i : Instr) : decode (encode i) = if i.wf then .ok i else .error i.operandCause := by
  have hop := opcode_encode_lt i
  obtain ⟨hbits, hduty⟩ := (checks_pass_iff hop).mpr (congrArg encode (selectRow_encode i))
  unfold decode
  rw [if_neg (BitVec.not_le.mpr hop), if_neg (not_not.mpr hbits), if_neg hduty, opcode_encode, selectRow_encode]
  have hfields := readFrom_encode i
  cases i with
  | waveConfig | waveStep | readReg =>
    injection hfields with hfield
    simp [Instr.op, Instr.wf, hfield, Instr.operandCause, fieldM_waveStep, ← BitVec.not_lt]
  | waveStepM => decide
  | _ => simp [Instr.op, Instr.wf]

/-- Every word has a reserved opcode, or is no command's word, or is the word of a command. -/
theorem word_cases (w : Word) :
    0xC ≤ opcode w ∨ (opcode w < 0xC ∧ ∀ i, encode i ≠ w) ∨ ∃ i, encode i = w := by
  by_cases hop : opcode w < 0xC
  · by_cases h : ∃ i, encode i = w
    · exact .inr (.inr h)
    · exact .inr (.inl ⟨hop, not_exists.mp h⟩)
  · exact .inl (BitVec.not_lt.mp hop)

/-! ### What is accepted -/

theorem decode_eq_ok_iff (w : Word) (i : Instr) : decode w = .ok i ↔ i.wf = true ∧ encode i = w := by
  refine ⟨fun h => ?_, fun ⟨hwf, hw⟩ => by rw [← hw, decode_encode, if_pos hwf]⟩
  obtain hop | ⟨hop, hnone⟩ | ⟨j, rfl⟩ := word_cases w
  · rw [decode_of_reserved hop] at h; cases h
  · rw [decode_of_no_encoding hop hnone] at h; cases h
  · rw [decode_encode] at h
    split_ifs at h with hwf
    cases h
    exact ⟨hwf, rfl⟩

/-- Settles O2: the checks for reserved bits pass a command's word, the row selected is the command, and the checks of
its operands are the value constraint. -/
theorem decodeOfEncodeIsTheCommand : Obligations.DecodeOfEncodeIsTheCommand :=
  fun i hwf => (decode_encode i).trans (if_pos hwf)

/-- Settles O3: a word that is no command's is refused, and a command's word is read as that command or refused. -/
theorem decodeAcceptsExactlyTheEncodings : Obligations.DecodeAcceptsExactlyTheEncodings := decode_eq_ok_iff

/-- Settles O4: a row takes the words of its commands, and no two commands share a word. -/
theorem rowsSelectedByMatchAndMask : Obligations.RowsSelectedByMatchAndMask := by
  refine ⟨fun w j => ⟨?_, fun ⟨hrow, hconstraint⟩ => ?_⟩, fun w i j hi hj => ?_⟩
  · rintro ⟨i, hdecode, hrow⟩
    obtain ⟨hwf, rfl⟩ := (decode_eq_ok_iff w i).mp hdecode
    have hj : encode i &&& j.tableRow.2 = j.tableRow.1 := hrow ▸ encode_in_row i
    have hi : j.readFrom (encode i) = i := encode_injective ((row_iff j _).mp hj)
    refine ⟨hj, ?_⟩
    rw [← rowConstraint_readFrom (encode i) j, hi, rowConstraint_encode, hwf]
  · have hw := (row_iff j w).mp hrow
    refine ⟨j.readFrom w, (decode_eq_ok_iff w _).mpr ⟨?_, hw⟩, tableRow_readFrom w j⟩
    rw [← rowConstraint_encode, hw, rowConstraint_readFrom, hconstraint]
  · have hsame : i.readFrom w = j.readFrom w :=
      encode_injective (((row_iff i w).mp hi).trans ((row_iff j w).mp hj).symm)
    rw [← tableRow_readFrom w i, hsame, tableRow_readFrom]

/-! ### What is refused, by cause (R201) -/

theorem decode_encode_error_iff (i : Instr) (c : Cause) :
    decode (encode i) = .error c ↔ i.wf = false ∧ i.operandCause = c := by
  rw [decode_encode]
  cases i.wf <;> simp

theorem operandCause_cases (i : Instr) : i.operandCause = .operandDomain ∨ i.operandCause = .registerIndex := by
  cases i with
  | readReg => exact .inr rfl
  | _ => exact .inl rfl

theorem decode_eq_reservedOpcode_iff (w : Word) : decode w = .error .reservedOpcode ↔ 0xC ≤ opcode w := by
  refine ⟨fun h => ?_, decode_of_reserved⟩
  obtain hop | ⟨hop, hnone⟩ | ⟨i, rfl⟩ := word_cases w
  · exact hop
  · rw [decode_of_no_encoding hop hnone] at h; cases h
  · have hcause := operandCause_cases i
    simp [((decode_encode_error_iff i _).mp h).2] at hcause

theorem decode_eq_reservedBit_iff (w : Word) :
    decode w = .error .reservedBit ↔ opcode w < 0xC ∧ ∀ i, encode i ≠ w := by
  refine ⟨fun h => ?_, fun ⟨hop, hnone⟩ => decode_of_no_encoding hop hnone⟩
  obtain hop | hnone | ⟨i, rfl⟩ := word_cases w
  · rw [decode_of_reserved hop] at h; cases h
  · exact hnone
  · have hcause := operandCause_cases i
    simp [((decode_encode_error_iff i _).mp h).2] at hcause

/-- Causes 3 and 4 are those of a command's word whose operands break the value constraint. -/
theorem decode_eq_operandCause_iff (w : Word) {c : Cause} (hc : c = .operandDomain ∨ c = .registerIndex) :
    decode w = .error c ↔ ∃ i : Instr, (i.wf = false ∧ i.operandCause = c) ∧ encode i = w := by
  refine ⟨fun h => ?_, fun ⟨i, hi, hw⟩ => hw ▸ (decode_encode_error_iff i c).mpr hi⟩
  obtain hop | ⟨hop, hnone⟩ | ⟨i, hw⟩ := word_cases w
  · rw [decode_of_reserved hop] at h; cases h; simp at hc
  · rw [decode_of_no_encoding hop hnone] at h; cases h; simp at hc
  · exact ⟨i, (decode_encode_error_iff i c).mp (hw ▸ h), hw⟩

theorem breaks_operandDomain_iff (i : Instr) :
    (i.wf = false ∧ i.operandCause = .operandDomain) ↔ i = .waveConfig 0 ∨ ∃ d, 100 < d ∧ i = .waveStep d := by
  cases i <;> simp [Instr.wf, Instr.operandCause]

theorem breaks_registerIndex_iff (i : Instr) :
    (i.wf = false ∧ i.operandCause = .registerIndex) ↔ ∃ x, 0x0C < x ∧ i = .readReg x := by
  cases i <;> simp [Instr.wf, Instr.operandCause]

/-- Settles O5: causes 1 and 2 are the words that are no command's, and causes 3 and 4 the words of commands that are
not well-formed. -/
theorem illegalWordsByCause : Obligations.IllegalWordsByCause := by
  intro w
  refine ⟨decode_eq_reservedOpcode_iff w, (decode_eq_reservedBit_iff w).trans (and_congr_right fun _ => ?_),
    (decode_eq_operandCause_iff w (.inl rfl)).trans ?_, (decode_eq_operandCause_iff w (.inr rfl)).trans ?_⟩
  · exact ⟨fun h i hrow => h _ ((row_iff i w).mp hrow), fun h i hw => h i (hw ▸ encode_in_row i)⟩
  · simp only [breaks_operandDomain_iff]
    constructor
    · rintro ⟨_, rfl | ⟨d, hd, rfl⟩, rfl⟩
      exacts [.inl rfl, .inr ⟨d, hd, rfl⟩]
    · rintro (rfl | ⟨d, hd, rfl⟩)
      exacts [⟨_, .inl rfl, rfl⟩, ⟨_, .inr ⟨d, hd, rfl⟩, rfl⟩]
  · simp only [breaks_registerIndex_iff]
    constructor
    · rintro ⟨_, ⟨x, hx, rfl⟩, rfl⟩
      exact ⟨x, hx, rfl⟩
    · rintro ⟨x, hx, rfl⟩
      exact ⟨_, ⟨x, hx, rfl⟩, rfl⟩

/-- Settles O1: fixed words, decoded. -/
theorem sampleWordsDecode : Obligations.SampleWordsDecode := by
  unfold Obligations.SampleWordsDecode
  decide

end Sys2Proof
end

section
/-! A command run to its end: the slot that runs it (spec/10_state.md R34), the number of its response words
(spec/30_encoding.md R93), and the bus commands with no chip selected (R90). -/

namespace Sys2Proof.Machine

/-! ### The slot that runs a command -/

theorem acceptWord_of_ok {w : Word} {i : Instr} (h : decode w = .ok i) (s : State) :
    acceptWord w .command s = exec i s := by
  simp [acceptWord, h]

/-- Settles O6: the idle sequencer accepts the word, and at pace `command` an accepted command is run; the slot placed
by `withFetchWord` is such a slot. -/
theorem stepRunsTheDecodedCommand : Obligations.StepRunsTheDecodedCommand := by
  have hstep (s : State) (w : Word) (i : Instr) (hok : s.cfg.ok = true) (hidle : s.idle = true)
      (hr : s.nextSlot.rst = false) (hw : s.nextSlot.cmd = some w) (hpace : s.nextSlot.pace = .command)
      (hd : decode w = .ok i) : step s = exec i (openSlot s.nextSlot s.popSlot) := by
    rw [step_of_ok hok, playSlot_of_word (s := s.popSlot) hr hidle hw, hpace, acceptWord_of_ok hd]
  exact ⟨hstep, fun s nbits w i hok hd => hstep (s.withFetchWord nbits w) _ i hok rfl rfl rfl rfl hd⟩

/-! ### Response words -/

/-- The response words a step of the sequencer appends (R103, R166, R170, R181). -/
def MicroOp.responseCount : MicroOp → Nat
  | .bus (.read _ .respond) => 1
  | .consume => 3
  | .derive => 4
  | .readReg _ => 1
  | .bus _ | .setCursor _ _ | .setPeriod _ | .sample _ | .illegal _ => 0

theorem runOp_rsp_length (op : MicroOp) (s : State) : (runOp op s).rsp.length = s.rsp.length + op.responseCount := by
  cases op with
  | bus t =>
    cases t with
    | read k u => cases u <;> simp [runOp, transact, busEffect, useRead, MicroOp.responseCount]
    | _ => simp [runOp, transact, busEffect, MicroOp.responseCount]
  | consume => simp [runOp, consumeStep, MicroOp.responseCount]
  | derive => simp [runOp, State.deriveWords, MicroOp.responseCount]
  | _ => simp [runOp, MicroOp.responseCount]

theorem run_rsp_length (ops : List MicroOp) (s : State) :
    (run ops s).rsp.length = s.rsp.length + (ops.map MicroOp.responseCount).sum := by
  induction ops generalizing s with
  | nil => rfl
  | cons op ops ih => simp [ih, runOp_rsp_length, Nat.add_assoc]

/-- A list of steps none of which appends a response word. -/
def Silent (ops : List MicroOp) : Prop := ∀ op ∈ ops, op.responseCount = 0

theorem Silent.responseCount {ops : List MicroOp} (h : Silent ops) : (ops.map MicroOp.responseCount).sum = 0 :=
  List.sum_eq_zero (List.forall_mem_map.mpr h)

@[simp] theorem silent_nil : Silent [] := fun _ h => nomatch h

@[simp] theorem silent_cons {op : MicroOp} {ops : List MicroOp} :
    Silent (op :: ops) ↔ op.responseCount = 0 ∧ Silent ops := List.forall_mem_cons

@[simp] theorem silent_append {as bs : List MicroOp} : Silent (as ++ bs) ↔ Silent as ∧ Silent bs :=
  List.forall_mem_append

theorem silent_flatMap {α : Type} {l : List α} {f : α → List MicroOp} (h : ∀ a, Silent (f a)) :
    Silent (l.flatMap f) := by
  intro op hop
  obtain ⟨a, -, hmem⟩ := List.mem_flatMap.mp hop
  exact h a op hmem

@[simp] theorem silent_setAddressOps (cfg : Config) (p : BitVec 3) (c : BitVec 7) : Silent (setAddressOps cfg p c) := by
  simp [setAddressOps, MicroOp.responseCount]

@[simp] theorem silent_addrWriteOps (cfg : Config) (p : BitVec 3) (c : BitVec 7) (b : Byte) :
    Silent (addrWriteOps cfg p c b) := by
  simp [addrWriteOps, MicroOp.responseCount]

/-- The reads of `RmwOr` answer nobody (R60). -/
@[simp] theorem silent_rmwOrOps (cfg : Config) (r : Nat) (c : BitVec 7) : Silent (rmwOrOps cfg r c) := by
  unfold rmwOrOps addrReadOps readDataOps
  split <;> simp [MicroOp.responseCount]

theorem silent_eraseOps (cfg : Config) : Silent (eraseOps cfg) :=
  silent_flatMap fun _ => silent_flatMap fun _ => silent_addrWriteOps _ _ _ _

@[simp] theorem silent_vcolOps (cfg : Config) (c : BitVec 7) : Silent (vcolOps cfg c) :=
  silent_flatMap fun r => silent_rmwOrOps cfg r c

theorem silent_columnOps (cfg : Config) (buf : BitVec 128) (x : Nat) : Silent (columnOps cfg buf x) := by
  unfold columnOps hsegOps vconnOps
  split <;> split <;> simp

theorem silent_renderOps (duty : Nat) (s : State) : Silent (renderOps duty s) :=
  silent_cons.mpr ⟨rfl, silent_append.mpr ⟨silent_eraseOps _, silent_flatMap fun x => silent_columnOps _ _ x⟩⟩

theorem silent_glyphOps (cfg : Config) (page : BitVec 3) (col : BitVec 7) (bs : List Byte) :
    Silent (glyphOps cfg page col bs) := by
  induction bs generalizing page col with
  | nil => simp [glyphOps]
  | cons b bs ih => unfold glyphOps advanceOps; split <;> simp [ih, MicroOp.responseCount]

/-- The steps of a well-formed command append as many words as R93 gives the command. -/
theorem programOf_responseCount {i : Instr} (hwf : i.wf = true) (s : State) :
    ((programOf i s).map MicroOp.responseCount).sum = i.responseCount := by
  cases i with
  | nop | sendCmd | writeByte | readByte | consume | derive => rfl
  | setAddress => exact (silent_setAddressOps _ _ _).responseCount
  | gotoxy => exact (silent_cons.mpr ⟨rfl, silent_setAddressOps _ _ _⟩).responseCount
  | displayChar code =>
    simp only [programOf, progDisplayChar]
    split
    · exact (silent_glyphOps _ _ _ _).responseCount
    · rfl
  | waveConfig per => simp only [programOf, progWaveConfig]; split <;> rfl
  | waveStep duty =>
    simp only [programOf, progWaveStep]
    split
    · rfl
    · exact (silent_renderOps _ _).responseCount
  | waveStepM => exact (silent_renderOps _ _).responseCount
  | readReg idx =>
    simp only [programOf, progReadReg]
    split
    next => rfl
    next hnone => exact absurd hwf (by simp [wf_readReg_of_ofIndex_none idx hnone])

/-- Settles O52: every step appends its own number of response words, and the program's numbers add up to the
command's. -/
theorem responseCounts : Obligations.ResponseCounts := by
  intro i s hwf
  refine ⟨_, exec_eq_run i s, ?_⟩
  rw [run_rsp_length, programOf_responseCount hwf]
  cases i <;> rfl

/-! ### No chip selected -/

theorem decodeChip_of_none {ch : BitVec 2} (h : ch = 0 ∨ ch = 3) : decodeChip ch = none := by
  rcases h with rfl | rfl <;> rfl

/-- Settles O30: each of the three programs is one transaction, with no chip. -/
theorem noneSelectorReachesNoController : Obligations.NoneSelectorReachesNoController := by
  refine ⟨rfl, rfl, fun ch hch data s => ?_⟩
  have hnone := decodeChip_of_none hch
  refine ⟨⟨_, exec_eq_run _ s, ?_⟩, ⟨_, exec_eq_run _ s, ?_⟩, ⟨_, readByteOf none s, exec_eq_run _ s, ?_⟩⟩
  · simp [programOf, progSendCmd, hnone, runOp, transact, busEffect, busCmd]
  · simp [programOf, progWriteByte, hnone, runOp, transact, busEffect, busWrData]
  · simp [programOf, progReadByte, hnone, runOp, transact, busEffect, busRdData, useRead]

end Sys2Proof.Machine
end

section
/-! The assembler (spec/30_encoding.md R95, R96): one equation per mnemonic for its operand numbers; then whole lines,
as far as a character in single quotes goes. -/

namespace Sys2Proof.Machine

/-! ### Operand numbers -/

/-- The command of a mnemonic without operands, by the list of operand numbers. -/
def noOperand (i : Instr) : List Nat → Option Instr
  | [] => some i
  | _ => none

/-- The command of a mnemonic with one operand of `w` bits, by the list of operand numbers. -/
def oneOperand (w : Nat) (f : BitVec w → Instr) : List Nat → Option Instr
  | [a] => if a < 2 ^ w ∧ (f (BitVec.ofNat w a)).wf = true then some (f (BitVec.ofNat w a)) else none
  | _ => none

/-- The command of a mnemonic with two operands of `v` and `w` bits, by the list of operand numbers. -/
def twoOperands (v w : Nat) (f : BitVec v → BitVec w → Instr) : List Nat → Option Instr
  | [a, b] =>
    if a < 2 ^ v ∧ b < 2 ^ w ∧ (f (BitVec.ofNat v a) (BitVec.ofNat w b)).wf = true then
      some (f (BitVec.ofNat v a) (BitVec.ofNat w b))
    else none
  | _ => none

theorem noOperand_eq_ite (i : Instr) (ops : List Nat) : noOperand i ops = if ops = [] then some i else none := by
  cases ops <;> rfl

theorem oneOperand_of_length_ne {w : Nat} {f : BitVec w → Instr} {ops : List Nat} (h : ops.length ≠ 1) :
    oneOperand w f ops = none := by
  match ops, h with
  | [], _ | _ :: _ :: _, _ => rfl
  | [_], h => exact absurd rfl h

theorem twoOperands_of_length_ne {v w : Nat} {f : BitVec v → BitVec w → Instr} {ops : List Nat} (h : ops.length ≠ 2) :
    twoOperands v w f ops = none := by
  match ops, h with
  | [], _ | [_], _ | _ :: _ :: _ :: _, _ => rfl
  | [_, _], h => exact absurd rfl h

theorem asField_bind {α : Type} (w n : Nat) (f : BitVec w → Option α) :
    (asField w n).bind f = if n < 2 ^ w then f (BitVec.ofNat w n) else none := by
  unfold asField; split <;> rfl

/-- The mnemonics without operands (R95). -/
theorem assembleInstr_noOperand :
    assembleInstr "NOP".toList = noOperand .nop ∧ assembleInstr "WAVE_STEP_M".toList = noOperand .waveStepM ∧
      assembleInstr "CONSUME".toList = noOperand .consume ∧ assembleInstr "DERIVE".toList = noOperand .derive := by
  refine ⟨?_, ?_, ?_, ?_⟩ <;> (funext ops; cases ops <;> rfl)

/-- The mnemonics with one operand (R95). -/
theorem assembleInstr_oneOperand :
    assembleInstr "READ_BYTE".toList = oneOperand 2 .readByte ∧
      assembleInstr "DISPLAY_CHAR".toList = oneOperand 8 .displayChar ∧
      assembleInstr "WAVE_CONFIG".toList = oneOperand 7 .waveConfig ∧
      assembleInstr "WAVE_STEP".toList = oneOperand 7 .waveStep ∧
      assembleInstr "READ_REG".toList = oneOperand 8 .readReg := by
  refine ⟨?_, ?_, ?_, ?_, ?_⟩ <;>
  · funext ops
    match ops with
    | [a] => simp [assembleInstr, oneOperand, asField_bind]; split_ifs <;> simp_all
    | [] | _ :: _ :: _ => simp [assembleInstr, oneOperand]

/-- The mnemonics with two operands (R95). -/
theorem assembleInstr_twoOperands :
    assembleInstr "SEND_CMD".toList = twoOperands 2 8 .sendCmd ∧
      assembleInstr "WRITE_BYTE".toList = twoOperands 2 8 .writeByte ∧
      assembleInstr "SET_ADDRESS".toList = twoOperands 3 7 .setAddress ∧
      assembleInstr "GOTOXY".toList = twoOperands 3 7 .gotoxy := by
  refine ⟨?_, ?_, ?_, ?_⟩ <;>
  · funext ops
    match ops with
    | [a, b] => simp [assembleInstr, twoOperands, asField_bind]; split_ifs <;> simp_all
    | [] | [_] | _ :: _ :: _ :: _ => simp [assembleInstr, twoOperands]

/-- Whatever assembles is well-formed. -/
theorem wf_of_assembleInstr {m : List Char} {ops : List Nat} {i : Instr} (h : assembleInstr m ops = some i) :
    i.wf = true := by
  unfold assembleInstr at h
  dsimp only at h
  split at h
  next j _ =>
    split at h
    next hwf => cases h; exact hwf
    next => cases h
  next => cases h

/-- There is no other mnemonic. -/
theorem mnemonic_of_assembleInstr {m : List Char} {ops : List Nat} {i : Instr} (h : assembleInstr m ops = some i) :
    m ∈ ["NOP".toList, "SEND_CMD".toList, "WRITE_BYTE".toList, "READ_BYTE".toList, "SET_ADDRESS".toList,
      "GOTOXY".toList, "DISPLAY_CHAR".toList, "WAVE_CONFIG".toList, "WAVE_STEP".toList, "WAVE_STEP_M".toList,
      "CONSUME".toList, "DERIVE".toList, "READ_REG".toList] := by
  by_contra hm
  simp only [List.mem_cons, not_or] at hm
  simp only [assembleInstr, hm, if_false, reduceCtorEq] at h

/-- A text is spelled up to its first zero byte (R96). -/
theorem displayString_of_no_zero {a : List Byte} (h : ∀ x ∈ a, x ≠ 0) (b : List Byte) :
    displayString (a ++ 0 :: b) = a.map .displayChar ∧ displayString a = a.map .displayChar := by
  have htake : ∀ x ∈ a, decide (x ≠ 0) = true := fun x hx => decide_eq_true (h x hx)
  constructor
  · rw [displayString, List.takeWhile_append_of_pos htake]; simp
  · rw [displayString, List.takeWhile_eq_self_iff.mpr htake]

/-- Settles O57: by the equation of each mnemonic, whose range is the field's and the value constraint's. -/
theorem assemblerRefusesOutOfRange : Obligations.AssemblerRefusesOutOfRange := by
  obtain ⟨hnop, hstepM, hconsume, hderive⟩ := assembleInstr_noOperand
  obtain ⟨hread, hchar, hconfig, hstep, hreg⟩ := assembleInstr_oneOperand
  obtain ⟨hcmd, hwrite, haddr, hgoto⟩ := assembleInstr_twoOperands
  refine ⟨fun ops => ?_, fun a b => ?_, fun ops => ⟨fun m hm hlen => ?_, fun m hm hlen => ?_⟩,
    fun m ops i h => ⟨wf_of_assembleInstr h, mnemonic_of_assembleInstr h⟩, fun a b h => displayString_of_no_zero h b⟩
  · simp only [hnop, hstepM, hconsume, hderive, noOperand_eq_ite, and_self]
  · rw [hread, hchar, hconfig, hstep, hreg, hcmd, hwrite, haddr, hgoto]
    refine ⟨?_, ?_, ?_, ?_, ?_, ?_, ?_, ?_, ?_⟩ <;> refine if_congr ?_ rfl rfl
    all_goals simp [Instr.wf, BitVec.le_def, ← BitVec.toNat_inj]; omega
  · simp only [List.mem_cons, List.not_mem_nil, or_false] at hm
    obtain rfl | rfl | rfl | rfl := hm <;> simp only [hcmd, hwrite, haddr, hgoto, twoOperands_of_length_ne hlen]
  · simp only [List.mem_cons, List.not_mem_nil, or_false] at hm
    obtain rfl | rfl | rfl | rfl | rfl := hm <;>
      simp only [hread, hchar, hconfig, hstep, hreg, oneOperand_of_length_ne hlen]

/-! ### Lines -/

/-- A list that begins and ends with a character other than a space has no spaces to drop. -/
theorem trimSpaces_of_ends {a b : Char} (ha : a ≠ ' ') (hb : b ≠ ' ') (cs : List Char) :
    trimSpaces (a :: (cs ++ [b])) = a :: (cs ++ [b]) := by
  simp [trimSpaces, ha, hb]

@[simp] theorem trimSpaces_space (cs : List Char) : trimSpaces (' ' :: cs) = trimSpaces cs := by simp [trimSpaces]

theorem eq_quote_of_toNat {q : Char} (h : q.toNat = 39) : q = '\'' := by rw [← Char.ofNat_toNat q, h]

@[simp] theorem trimSpaces_quoted (c : Char) : trimSpaces ['\'', c, '\''] = ['\'', c, '\''] :=
  trimSpaces_of_ends (by decide) (by decide) [c]

@[simp] theorem splitCommas_only_quoted (c : Char) : splitCommas 0 ['\'', c, '\''] = [['\'', c, '\'']] :=
  splitCommas_quoted rfl rfl c []

theorem parseNumber_quoted (c : Char) :
    parseNumber ['\'', c, '\''] = if c.toNat < 128 then some c.toNat else none := by
  unfold parseNumber
  rfl

@[simp] theorem parseOperand_quoted {c : Char} (hc : c.toNat < 128) : parseOperand [] ['\'', c, '\''] = some c.toNat :=
  (parseNumber_quoted c).trans (if_pos hc)

/-- A line of a mnemonic and operands, if the mnemonic is neither of those with an operand form of their own. -/
theorem assembleCommands_of_operands {m r : List Char} {ops : List Nat} (hm : ∀ x ∈ m, x ≠ ' ')
    (hline : trimSpaces (m ++ ' ' :: r) = m ++ ' ' :: r) (hstring : m ≠ "DISPLAY_STRING".toList)
    (hreg : m ≠ "READ_REG".toList) (hr : trimSpaces r ≠ [])
    (hops : (splitCommas 0 (trimSpaces r)).mapM (fun o => parseOperand [] (trimSpaces o)) = some ops) :
    assembleCommands (m ++ ' ' :: r) = (assembleInstr m ops).map fun i => [i] := by
  have hm' : ∀ x ∈ m, decide (x ≠ ' ') = true := fun x hx => decide_eq_true (hm x hx)
  have hmnemonic : (m ++ ' ' :: r).takeWhile (· ≠ ' ') = m := by
    rw [List.takeWhile_append_of_pos hm']; simp
  have hrest : (m ++ ' ' :: r).dropWhile (· ≠ ' ') = ' ' :: r := by
    rw [List.dropWhile_append_of_pos hm']; simp
  simp only [assembleCommands, hline, hmnemonic, hrest, trimSpaces_space, if_neg hstring, if_neg hreg, if_neg hr, hops]

theorem assembleCommands_displayChar_quoted {c : Char} (hc : c.toNat < 128) :
    assembleCommands ("DISPLAY_CHAR ".toList ++ ['\'', c, '\'']) =
      (assembleInstr "DISPLAY_CHAR".toList [c.toNat]).map fun i => [i] := by
  have hline : trimSpaces ("DISPLAY_CHAR ".toList ++ ['\'', c, '\'']) = "DISPLAY_CHAR ".toList ++ ['\'', c, '\''] :=
    trimSpaces_of_ends (by decide) (by decide) ("ISPLAY_CHAR ".toList ++ ['\'', c])
  exact assembleCommands_of_operands (m := "DISPLAY_CHAR".toList) (r := ['\'', c, '\'']) (by simp) hline (by simp)
    (by simp) (by simp) (by simp [hc])

theorem assembleCommands_writeByte_quoted {c : Char} (hc : c.toNat < 128) :
    assembleCommands ("WRITE_BYTE 2, ".toList ++ ['\'', c, '\'']) =
      (assembleInstr "WRITE_BYTE".toList [2, c.toNat]).map fun i => [i] := by
  have hline : trimSpaces ("WRITE_BYTE 2, ".toList ++ ['\'', c, '\'']) = "WRITE_BYTE 2, ".toList ++ ['\'', c, '\''] :=
    trimSpaces_of_ends (by decide) (by decide) ("RITE_BYTE 2, ".toList ++ ['\'', c])
  have htrim : trimSpaces ['2', ',', ' ', '\'', c, '\''] = ['2', ',', ' ', '\'', c, '\''] :=
    trimSpaces_of_ends (by decide) (by decide) [',', ' ', '\'', c]
  have hsplit : splitCommas 0 ['2', ',', ' ', '\'', c, '\''] = [['2'], [' ', '\'', c, '\'']] := by
    rw [splitCommas_plain (by decide) rfl, splitCommas_comma, splitCommas_plain (by decide) rfl,
      splitCommas_only_quoted]
    rfl
  have htwo : parseOperand [] (trimSpaces ['2']) = some 2 := by decide
  exact assembleCommands_of_operands (m := "WRITE_BYTE".toList) (r := ['2', ',', ' ', '\'', c, '\'']) (by simp) hline
    (by simp) (by simp) (by simp [htrim]) (by simp [htrim, hsplit, htwo, hc])

/-- Settles O59: the quoted character is one operand of the line, the number of its code. -/
theorem quotedCharacterIsItsCode : Obligations.QuotedCharacterIsItsCode := by
  intro c q hc hq
  obtain ⟨-, hchar, -⟩ := assembleInstr_oneOperand
  obtain ⟨-, hwrite, -⟩ := assembleInstr_twoOperands
  have hbyte : c.toNat < 256 := by omega
  rw [eq_quote_of_toNat hq, assembleCommands_displayChar_quoted hc, assembleCommands_writeByte_quoted hc, hchar, hwrite]
  simp [oneOperand, twoOperands, Instr.wf, hbyte]

end Sys2Proof.Machine
end

section
/-! The DisplayController commands (spec/40_display_controller.md R100-R104): SEND_CMD, WRITE_BYTE and READ_BYTE are one
bus transaction each, whose effect on the selected controller is R61's and on any other nothing; SET_ADDRESS is
`SetAddress`. -/

namespace Sys2Proof.Machine

/-! ### The pointers after a controller's response (R61) -/

section pointers
variable (cfg : Config) (b : Byte) (d : Display)

theorem Display.onCmd_ctl_same (k : Chip) : (d.onCmd cfg k b).ctl k =
    if b &&& 0xF8 = cfg.cmdPageBase then ⟨b.extractLsb' 0 3, (d.ctl k).col⟩
    else if b &&& 0xC0 = cfg.cmdColBase then ⟨(d.ctl k).page, b.extractLsb' 0 6⟩
    else d.ctl k := by
  unfold Display.onCmd
  split_ifs <;> simp

theorem Display.onCmd_ctl_other {k k' : Chip} (h : k' ≠ k) : (d.onCmd cfg k b).ctl k' = d.ctl k' := by
  unfold Display.onCmd
  split_ifs <;> simp [Display.ctl_setCtl_other, h]

theorem Display.advance_ctl_same (k : Chip) : (d.advance cfg k).ctl k =
    ⟨(d.ctl k).page, if cfg.dispAutoinc then (d.ctl k).col + 1 else (d.ctl k).col⟩ := by
  unfold Display.advance
  split_ifs <;> simp

theorem Display.advance_ctl_other {k k' : Chip} (h : k' ≠ k) : (d.advance cfg k).ctl k' = d.ctl k' := by
  unfold Display.advance
  split_ifs <;> simp [Display.ctl_setCtl_other, h]

/-- The byte a data write stores is no matter to the pointers. -/
theorem Display.onWrite_ctl (k k' : Chip) : (d.onWrite cfg k b).ctl k' = (d.advance cfg k).ctl k' := by
  unfold Display.onWrite Display.advance
  split_ifs
  · cases k <;> cases k' <;> rfl
  · cases k' <;> rfl

end pointers

/-! ### One transaction, whatever the chip (R53, R54) -/

theorem transact_registers (t : Txn) (s : State) : s.sameRegisters (transact t s) :=
  run_registers (ops := [.bus t]) rfl s

theorem transact_pinsIdle (t : Txn) (s : State) : (transact t s).pinsIdle = true := releaseBus_pinsIdle _

/-- With `NONE` no controller sees the transaction (R54). -/
theorem transact_none_disp {t : Txn} (h : t.chip = none) (s : State) : (transact t s).disp = s.disp := by
  cases t with
  | read k u => cases h; simp [transact, busEffect, busRdData]
  | cmd k b => cases h; simp [transact, busEffect, busCmd]
  | _ => cases h; simp [transact, busEffect, busWrData]

theorem transact_cmd_trace (k : Option Chip) (b : Byte) (s : State) :
    (transact (.cmd k b) s).trace = .C k b :: s.trace := by simp [transact, busEffect]

theorem transact_write_trace (k : Option Chip) (b : Byte) (s : State) :
    (transact (.write k b) s).trace = .D k b :: s.trace := by simp [transact, busEffect]

theorem transact_write_rsp (k : Option Chip) (b : Byte) (s : State) : (transact (.write k b) s).rsp = s.rsp := by
  simp [transact, busEffect]

theorem transact_read_trace (k : Option Chip) (u : ReadUse) (s : State) :
    (transact (.read k u) s).trace = .R k (readByteOf k s) :: s.trace := by simp [transact, busEffect]

theorem transact_respond_rsp (k : Option Chip) (s : State) :
    (transact (.read k .respond) s).rsp = s.rsp ++ [(readByteOf k s).zeroExtend 32] := by
  simp [transact, busEffect, useRead]

theorem readByteOf_some {s : State} (h : s.cfg.display = .conforming) (k : Chip) :
    readByteOf (some k) s = s.ramByte (s.disp.pointer k) := by simp [readByteOf, h]

/-! ### The commands -/

/-- Settles O31: SET_ADDRESS is `SetAddress`, which makes two command writes and leaves the resolved chip pointing at
the address. -/
theorem setAddressPointsTheResolvedChip : Obligations.SetAddressPointsTheResolvedChip := by
  intro pg col s
  obtain ⟨-, hrsp⟩ := run_setAddress_latch s pg col
  refine ⟨run (setAddressOps s.cfg pg col) s, exec_eq_run _ s, run_registers (isBus_setAddressOps s.cfg pg col) s,
    run_programOf_sameMemory (i := .setAddress pg col) (by simp) (by simp) (by simp) (by simp) s, hrsp,
    transact_pinsIdle _ _, run_setAddress_trace s pg col, fun hok hbases hdisp => ?_⟩
  rw [run_setAddress_disp hok hbases hdisp]
  exact ⟨Display.ctl_setCtl_same _ _ _, fun _ hne => Display.ctl_setCtl_other _ _ hne⟩

/-- Settles O27: the command is one command write, which a controller answers as R61 says. -/
theorem sendCmdIsOneCommandWrite : Obligations.SendCmdIsOneCommandWrite := by
  intro ch data s
  obtain ⟨-, hrsp⟩ := transact_cmd_latch s (decodeChip ch) data
  refine ⟨transact (.cmd (decodeChip ch) data) s, exec_eq_run _ s, transact_registers _ s, transact_sameMemory rfl s,
    hrsp, transact_pinsIdle _ s, transact_cmd_trace _ data s, fun k hk hdisp => ?_,
    fun hk => transact_none_disp (t := .cmd _ data) hk s⟩
  rw [hk, transact_cmd_disp s k data hdisp]
  exact ⟨Display.onCmd_ctl_same _ _ _ k, fun _ hne => Display.onCmd_ctl_other _ _ _ hne⟩

/-- Settles O28: the command is one data write, which stores at the pointer and advances it. -/
theorem writeByteStoresAtThePointer : Obligations.WriteByteStoresAtThePointer := by
  intro ch data s
  refine ⟨transact (.write (decodeChip ch) data) s, exec_eq_run _ s, transact_registers _ s,
    transact_write_rsp _ data s, transact_pinsIdle _ s, transact_write_trace _ data s, fun k hk hdisp => ?_,
    fun hk => transact_none_disp (t := .write _ data) hk s⟩
  simp only [State.ramByte, hk, transact_write_disp s k data hdisp, Display.onWrite_ctl]
  exact ⟨Display.byteAt_onWrite_same _ _ _ _, fun _ hne => Display.byteAt_onWrite_other _ _ _ _ hne,
    Display.advance_ctl_same _ _ k, fun _ hne => Display.advance_ctl_other _ _ hne⟩

/-- Settles O29: the command is one data read of the byte at the pointer, or of a free bus, and responds with the byte
read. -/
theorem readByteAnswersTheByteAtThePointer : Obligations.ReadByteAnswersTheByteAtThePointer := by
  intro ch s
  refine ⟨transact (.read (decodeChip ch) .respond) s, readByteOf (decodeChip ch) s, exec_eq_run _ s,
    transact_registers _ s, transact_sameMemory rfl s, transact_pinsIdle _ s, transact_read_trace _ _ s,
    transact_respond_rsp _ s, fun k hk hdisp => ?_,
    fun hk => transact_none_disp (t := .read _ .respond) hk s⟩
  rw [hk, transact_read_disp s k .respond hdisp]
  exact ⟨readByteOf_some hdisp k, Display.advance_ctl_same _ _ k, fun _ hne => Display.advance_ctl_other _ _ hne⟩

end Sys2Proof.Machine
end

section
/-! The cursor and glyph commands (spec/41_cursor_text.md R120-R125). The steps a glyph takes are followed by the number
of the position in page-major order, which only ever grows: the wraps of R121 are in `pageAt` and `colAt`. -/

namespace Sys2Proof.Machine

/-! ### Positions in page-major order (R121, R124) -/

/-- The page of a position, positions counted modulo 1024. -/
def pageAt (n : Nat) : BitVec 3 := BitVec.ofNat 3 (n / 128)

/-- The column of a position, positions counted modulo 1024. -/
def colAt (n : Nat) : BitVec 7 := BitVec.ofNat 7 n

theorem positionAddr_eq (n : Nat) : positionAddr n = logicalAddr (pageAt n) (colAt n) := rfl

@[simp] theorem toNat_pageAt (n : Nat) : (pageAt n).toNat = n / 128 % 8 := BitVec.toNat_ofNat ..

@[simp] theorem toNat_colAt (n : Nat) : (colAt n).toNat = n % 128 := BitVec.toNat_ofNat ..

@[simp] theorem pageAt_cursorIndex (s : State) : pageAt s.cursorIndex = s.curPage := by
  have hpage := s.curPage.isLt
  have hcol := s.curCol.isLt
  apply BitVec.eq_of_toNat_eq
  rw [toNat_pageAt, State.cursorIndex]
  omega

@[simp] theorem colAt_cursorIndex (s : State) : colAt s.cursorIndex = s.curCol := by
  have hcol := s.curCol.isLt
  apply BitVec.eq_of_toNat_eq
  rw [toNat_colAt, State.cursorIndex]
  omega

theorem cursorIndex_of_at {s : State} {n : Nat} (hpage : s.curPage = pageAt n) (hcol : s.curCol = colAt n) :
    s.cursorIndex = n % 1024 := by
  rw [State.cursorIndex, hpage, hcol, toNat_pageAt, toNat_colAt]
  omega

theorem cursorIndex_mod (s : State) : s.cursorIndex % 1024 = s.cursorIndex :=
  (cursorIndex_of_at (pageAt_cursorIndex s).symm (colAt_cursorIndex s).symm).symm

/-- Advancing the cursor adds one to the position: column 127 is followed by column 0 of the next page (R121). -/
theorem nextCursor_at (n : Nat) : nextCursor (pageAt n) (colAt n) = (pageAt (n + 1), colAt (n + 1)) := by
  unfold nextCursor
  rw [toNat_colAt]
  split
  next hwrap =>
    have hpage : pageAt n + 1 = pageAt (n + 1) := BitVec.eq_of_toNat_eq (by simp; omega)
    have hcol : 0 = colAt (n + 1) := BitVec.eq_of_toNat_eq (by simp; omega)
    rw [hpage, hcol]
  next hwrap =>
    have hpage : pageAt n = pageAt (n + 1) := BitVec.eq_of_toNat_eq (by simp; omega)
    have hcol : colAt n + 1 = colAt (n + 1) := BitVec.eq_of_toNat_eq (by simp)
    rw [hpage, hcol]

/-- Two positions have the same display byte only where they are the same modulo 1024. -/
theorem positionAddr_inj {m n : Nat} (h : positionAddr m = positionAddr n) : m % 1024 = n % 1024 := by
  rw [positionAddr_eq, positionAddr_eq] at h
  obtain ⟨hp, hc⟩ := logicalAddr_inj h
  have hpage : m / 128 % 8 = n / 128 % 8 := by simpa using congrArg BitVec.toNat hp
  have hcol : m % 128 = n % 128 := by simpa using congrArg BitVec.toNat hc
  omega

/-! ### One glyph column: an addressed write and an advance (R121, R122) -/

/-- The steps the loop of R122 makes for one byte. -/
def glyphColumnOps (cfg : Config) (n : Nat) (b : Byte) : List MicroOp :=
  addrWriteOps cfg (pageAt n) (colAt n) b ++ advanceOps cfg (pageAt n) (colAt n)

theorem glyphOps_at_cons (cfg : Config) (n : Nat) (b : Byte) (bs : List Byte) :
    glyphOps cfg (pageAt n) (colAt n) (b :: bs) =
      glyphColumnOps cfg n b ++ glyphOps cfg (pageAt (n + 1)) (colAt (n + 1)) bs := by
  rw [glyphOps, nextCursor_at, glyphColumnOps]

theorem charRecords_cons (cfg : Config) (n : Nat) (b : Byte) (bs : List Byte) :
    charRecords cfg n (b :: bs) = charRecords cfg n [b] ++ charRecords cfg (n + 1) bs := by
  simp [charRecords]

/-- The advance writes the cursor, and addresses chip 2 anew where it comes to column 64 (R121). -/
theorem advanceOps_at (cfg : Config) (n : Nat) : advanceOps cfg (pageAt n) (colAt n) =
    .setCursor (pageAt (n + 1)) (colAt (n + 1)) :: if n % 128 = 63 then setAddressOps cfg (pageAt n) 64 else [] := by
  simp [advanceOps, nextCursor_at]

theorem run_advance_cursor (cfg : Config) (n : Nat) (s : State) :
    (run (advanceOps cfg (pageAt n) (colAt n)) s).curPage = pageAt (n + 1) ∧
      (run (advanceOps cfg (pageAt n) (colAt n)) s).curCol = colAt (n + 1) := by
  have hbus : (if n % 128 = 63 then setAddressOps cfg (pageAt n) 64 else []).all MicroOp.isBus = true := by
    split <;> simp
  rw [advanceOps_at, run_cons]
  exact (run_registers hbus _).1

theorem run_advance_sameMemory (cfg : Config) (n : Nat) (s : State) :
    s.sameMemory (run (advanceOps cfg (pageAt n) (colAt n)) s) := by
  have hread : ∀ op ∈ advanceOps cfg (pageAt n) (colAt n), ∀ t, op = .bus t → t.isDataWrite = false := by
    rw [advanceOps_at]
    split <;> simp [setAddressOps, Txn.isDataWrite]
  exact fun a => run_keeps (·.ramByte a) (fun op hmem u => runOp_sameMemory (hread op hmem) u a) s

theorem run_setAddress_busTrace (cfg : Config) (p : BitVec 3) (c : BitVec 7) (s : State) :
    (run (setAddressOps cfg p c) s).busTrace =
      s.busTrace ++ [.C (some (chipOf c)) (pageByte cfg p), .C (some (chipOf c)) (colByte cfg (localOf c))] := by
  simp [setAddressOps, runOp, State.busTrace, transact_cmd_trace]

theorem run_addrWrite_busTrace (cfg : Config) (p : BitVec 3) (c : BitVec 7) (b : Byte) (s : State) :
    (run (addrWriteOps cfg p c b) s).busTrace = s.busTrace ++ [.C (some (chipOf c)) (pageByte cfg p),
      .C (some (chipOf c)) (colByte cfg (localOf c)), .D (some (chipOf c)) b] := by
  rw [addrWriteOps, run_append, run_cons, run_nil, runOp, State.busTrace, transact_write_trace, List.reverse_cons,
    ← State.busTrace, run_setAddress_busTrace]
  simp

theorem run_advance_busTrace (cfg : Config) (n : Nat) (s : State) :
    (run (advanceOps cfg (pageAt n) (colAt n)) s).busTrace = s.busTrace ++
      if n % 128 = 63 then [.C (some .two) (pageByte cfg (pageAt n)), .C (some .two) (colByte cfg 0)] else [] := by
  rw [advanceOps_at, run_cons]
  split
  next => exact run_setAddress_busTrace cfg (pageAt n) 64 _
  next => simp [runOp, State.busTrace]

theorem chipOf_colAt (n : Nat) : chipOf (colAt n) = if n % 128 < 64 then .one else .two := by
  rw [chipOf, toNat_colAt]

theorem run_glyphColumn_busTrace (cfg : Config) (n : Nat) (b : Byte) (s : State) :
    (run (glyphColumnOps cfg n b) s).busTrace = s.busTrace ++ charRecords cfg n [b] := by
  rw [glyphColumnOps, run_append, run_advance_busTrace, run_addrWrite_busTrace, chipOf_colAt, List.append_assoc]
  simp [charRecords, pageAt, colAt]

/-! ### A whole glyph (R122) -/

theorem run_glyphOps_busTrace (cfg : Config) (n : Nat) (bs : List Byte) (s : State) :
    (run (glyphOps cfg (pageAt n) (colAt n) bs) s).busTrace = s.busTrace ++ charRecords cfg n bs := by
  induction bs generalizing n s with
  | nil => simp [glyphOps, charRecords]
  | cons b bs ih =>
    rw [glyphOps_at_cons, run_append, ih, run_glyphColumn_busTrace, List.append_assoc, ← charRecords_cons]

/-- The loop leaves the cursor as many positions on as it writes bytes. -/
theorem run_glyphOps_cursor (cfg : Config) {n : Nat} (bs : List Byte) {s : State} (hpage : s.curPage = pageAt n)
    (hcol : s.curCol = colAt n) :
    (run (glyphOps cfg (pageAt n) (colAt n) bs) s).curPage = pageAt (n + bs.length) ∧
      (run (glyphOps cfg (pageAt n) (colAt n) bs) s).curCol = colAt (n + bs.length) := by
  induction bs generalizing n s with
  | nil => exact ⟨hpage, hcol⟩
  | cons b bs ih =>
    obtain ⟨hpage', hcol'⟩ := run_advance_cursor cfg n (run (addrWriteOps cfg (pageAt n) (colAt n) b) s)
    rw [glyphOps_at_cons, run_append, glyphColumnOps, run_append, List.length_cons, Nat.add_comm bs.length,
      ← Nat.add_assoc]
    exact ih hpage' hcol'

theorem runOp_rsp_of_silent {op : MicroOp} (h : op.responseCount = 0) (s : State) : (runOp op s).rsp = s.rsp := by
  cases op with
  | bus t =>
    cases t with
    | read k u =>
      cases u with
      | respond => cases h
      | _ => simp [runOp, transact, busEffect, useRead]
    | _ => simp [runOp, transact, busEffect]
  | consume | derive | readReg => cases h
  | _ => simp [runOp]

theorem run_rsp_of_silent {ops : List MicroOp} (h : Silent ops) (s : State) : (run ops s).rsp = s.rsp :=
  run_keeps (·.rsp) (fun op hmem u => runOp_rsp_of_silent (h op hmem) u) s

/-- Once a transaction has been made, the pins stand at their idle levels between the steps (R35). -/
theorem run_bus_cons_pinsIdle (t : Txn) (ops : List MicroOp) (s : State) :
    (run (.bus t :: ops) s).pinsIdle = true := run_pinsIdle ops (transact_pinsIdle t s)

theorem run_glyphOps_pinsIdle (cfg : Config) (p : BitVec 3) (c : BitVec 7) {bs : List Byte} (h : bs ≠ []) (s : State) :
    (run (glyphOps cfg p c bs) s).pinsIdle = true := by
  obtain ⟨b, bs, rfl⟩ := List.exists_cons_of_ne_nil h
  exact run_bus_cons_pinsIdle _ _ s

section conforming
variable {s : State} (hok : s.cfg.ok = true) (hbases : s.cfg.basesDistinct = true)
  (hdisp : s.cfg.display = .conforming)
include hok hbases hdisp

theorem run_glyphColumn_ramByte (n : Nat) (b : Byte) (a : Nat) :
    (run (glyphColumnOps s.cfg n b) s).ramByte a = if a = positionAddr n then b else s.ramByte a := by
  rw [glyphColumnOps, run_append, run_advance_sameMemory, run_addrWrite_ramByte hok hbases hdisp, positionAddr_eq]

/-- The loop writes at the positions it passes and nowhere else. -/
theorem run_glyphOps_ramByte_other (n : Nat) (bs : List Byte) {a : Nat}
    (ha : ∀ i, i < bs.length → a ≠ positionAddr (n + i)) :
    (run (glyphOps s.cfg (pageAt n) (colAt n) bs) s).ramByte a = s.ramByte a := by
  induction bs generalizing n s with
  | nil => rfl
  | cons b bs ih =>
    set u := run (glyphColumnOps s.cfg n b) s with hu
    have hcfg : u.cfg = s.cfg := run_cfg _ _
    have hfirst : u.ramByte a = s.ramByte a :=
      (run_glyphColumn_ramByte hok hbases hdisp n b a).trans (if_neg (ha 0 (Nat.succ_pos _)))
    have hrest : ∀ i, i < bs.length → a ≠ positionAddr (n + 1 + i) := fun i hi => by
      rw [Nat.add_right_comm]
      exact ha (i + 1) (Nat.succ_lt_succ hi)
    rw [glyphOps_at_cons, run_append, ← hu, ← hfirst, ← hcfg]
    rw [← hcfg] at hok hbases hdisp
    exact ih hok hbases hdisp (n + 1) hrest

/-- The loop writes its bytes one position after the other; none is overwritten, there being 1024 positions. -/
theorem run_glyphOps_ramByte (n : Nat) {bs : List Byte} (hlen : bs.length ≤ 1024) {i : Nat} (hi : i < bs.length) :
    (run (glyphOps s.cfg (pageAt n) (colAt n) bs) s).ramByte (positionAddr (n + i)) = bs.getD i 0 := by
  induction bs generalizing n s i with
  | nil => cases hi
  | cons b bs ih =>
    set u := run (glyphColumnOps s.cfg n b) s with hu
    have hcfg : u.cfg = s.cfg := run_cfg _ _
    have hfirst : u.ramByte (positionAddr n) = b :=
      (run_glyphColumn_ramByte hok hbases hdisp n b _).trans (if_pos rfl)
    rw [List.length_cons] at hlen hi
    rw [glyphOps_at_cons, run_append, ← hu, ← hcfg]
    rw [← hcfg] at hok hbases hdisp
    cases i with
    | zero =>
      have hother : ∀ j, j < bs.length → positionAddr n ≠ positionAddr (n + 1 + j) := fun j hj h => by
        have := positionAddr_inj h
        omega
      exact (run_glyphOps_ramByte_other hok hbases hdisp (n + 1) bs hother).trans hfirst
    | succ i =>
      rw [← Nat.add_assoc, Nat.add_right_comm, List.getD_cons_succ]
      exact ih hok hbases hdisp (n + 1) (by omega) (by omega)

end conforming

/-! ### The commands -/

/-- Which characters have a glyph (R125). -/
theorem glyphOf_supported (cfg : Config) {code : Byte} (h : 32 ≤ code.toNat ∧ code.toNat ≤ 90) :
    ∃ v, cfg.glyph[code.toNat - 32]? = some v ∧ glyphOf cfg code = some v.toList :=
  ⟨_, Vector.getElem?_eq_getElem (by omega), dif_pos h⟩

/-- A supported character is the loop over its five columns and the blank one, from the cursor's position (R122). -/
theorem programOf_displayChar_supported (s : State) {code : Byte} (h : 32 ≤ code.toNat ∧ code.toNat ≤ 90) :
    ∃ v, s.cfg.glyph[code.toNat - 32]? = some v ∧ programOf (.displayChar code) s =
      glyphOps s.cfg (pageAt s.cursorIndex) (colAt s.cursorIndex) (v.toList ++ [0]) := by
  obtain ⟨v, hv, hglyph⟩ := glyphOf_supported s.cfg h
  refine ⟨v, hv, ?_⟩
  rw [programOf, progDisplayChar, hglyph, pageAt_cursorIndex, colAt_cursorIndex]

/-- Any other character has no glyph, and no step (R123). -/
theorem programOf_displayChar_unsupported (s : State) {code : Byte} (h : ¬(32 ≤ code.toNat ∧ code.toNat ≤ 90)) :
    programOf (.displayChar code) s = [] := by
  rw [programOf, progDisplayChar, show glyphOf s.cfg code = none from dif_neg h]

/-- GOTOXY and DISPLAY_CHAR write no register but the cursor (R120, R122). -/
theorem run_textCommand_frame {i : Instr} (hi : (∃ p c, i = .gotoxy p c) ∨ ∃ code, i = .displayChar code) (s : State) :
    s.sameWave (run (programOf i s) s) ∧ s.sameCapture (run (programOf i s) s) ∧
      s.sameSnapshot (run (programOf i s) s) ∧ s.sameStatus (run (programOf i s) s) ∧
      s.sameOutside (run (programOf i s) s) ∧ s.sameSequencer (run (programOf i s) s) := by
  obtain ⟨hwf, hstep, hstepM, hconfig, hconsume⟩ : i.wf = true ∧ (∀ d, i ≠ .waveStep d) ∧ i ≠ .waveStepM ∧
      (∀ p, i ≠ .waveConfig p) ∧ i ≠ .consume := by
    obtain ⟨p, c, rfl⟩ | ⟨code, rfl⟩ := hi <;> simp [Instr.wf]
  obtain ⟨t, hexec, -, hbuf, hphase, hper, hmeas, ⟨hrise, hcap, hperiod, hhigh⟩, hstatus, houtside, hseq, -⟩ :=
    eachRegisterHasItsWriters i s hwf
  obtain ⟨hready, hsnap⟩ := hmeas hconsume
  obtain rfl : run (programOf i s) s = t := Host.Outcome.next.inj ((exec_eq_run i s).symm.trans hexec)
  exact ⟨⟨hbuf hstep hstepM, hphase hstep hstepM hconfig, hper hconfig⟩, ⟨hrise, hcap, hperiod, hhigh, hready⟩, hsnap,
    hstatus, houtside, hseq⟩

/-- Settles O38: the character has no step, so the command ends where it began. -/
theorem unsupportedCodesDoNothing : Obligations.UnsupportedCodesDoNothing := by
  intro code s h
  rw [exec_eq_run, programOf_displayChar_unsupported s (by omega), run_nil]

/-- Settles O32: the command sets the cursor and then is `SetAddress` there. -/
theorem gotoxySetsTheCursor : Obligations.GotoxySetsTheCursor := by
  intro pg col s
  let u := runOp (.setCursor pg col) s
  obtain ⟨hwave, hcap, hsnap, hstatus, houtside, hseq⟩ := run_textCommand_frame (.inl ⟨pg, col, rfl⟩) s
  obtain ⟨⟨hpage, hcol⟩, -⟩ := run_registers (isBus_setAddressOps s.cfg pg col) u
  refine ⟨run (setAddressOps u.cfg pg col) u, exec_eq_run _ s, hpage, hcol, hwave, hcap, hsnap, hstatus, houtside, hseq,
    run_programOf_sameMemory (i := .gotoxy pg col) (by simp) (by simp) (by simp) (by simp) s,
    (run_setAddress_latch u pg col).2, run_bus_cons_pinsIdle _ _ u, run_setAddress_trace u pg col,
    fun hok hbases hdisp => ?_⟩
  rw [run_setAddress_disp (s := u) hok hbases hdisp]
  exact ⟨Display.ctl_setCtl_same _ _ _, fun _ hne => Display.ctl_setCtl_other _ _ hne⟩

/-- DISPLAY_CHAR moves the cursor on by its six columns, or not at all (R122, R123). -/
theorem run_displayChar_cursorIndex (code : Byte) (s : State) :
    (run (programOf (.displayChar code) s) s).cursorIndex =
      (s.cursorIndex + if 32 ≤ code.toNat ∧ code.toNat ≤ 90 then 6 else 0) % 1024 := by
  split
  next h =>
    obtain ⟨v, -, hprog⟩ := programOf_displayChar_supported s h
    obtain ⟨hpage, hcol⟩ := run_glyphOps_cursor s.cfg (v.toList ++ [0]) (pageAt_cursorIndex s).symm
      (colAt_cursorIndex s).symm
    have hlen : (v.toList ++ [0]).length = 6 := by simp
    rw [hlen] at hpage hcol
    rw [hprog, cursorIndex_of_at hpage hcol]
  next h =>
    rw [programOf_displayChar_unsupported s h, run_nil, Nat.add_zero, cursorIndex_mod]

/-- Settles O37: the command is the loop of R122 over six bytes from the cursor's position. -/
theorem displayCharWritesSixColumns : Obligations.DisplayCharWritesSixColumns := by
  intro code s hlo hhi
  obtain ⟨v, hv, hprog⟩ := programOf_displayChar_supported s ⟨hlo, hhi⟩
  obtain ⟨hwave, hcap, hsnap, hstatus, houtside, hseq⟩ := run_textCommand_frame (.inr ⟨code, rfl⟩) s
  have hcursor := run_displayChar_cursorIndex code s
  rw [if_pos ⟨hlo, hhi⟩] at hcursor
  have hlen : (v.toList ++ [0]).length = 6 := by simp
  refine ⟨v, _, hv, exec_eq_run _ s, hcursor, hwave, hcap, hsnap, hstatus, houtside, hseq, ?_⟩
  rw [hprog]
  refine ⟨run_rsp_of_silent (silent_glyphOps _ _ _ _) s, run_glyphOps_pinsIdle _ _ _ (by simp) s,
    run_glyphOps_busTrace _ _ _ s, fun hok hbases hdisp => ⟨fun i hi => ?_, fun a ha => ?_⟩⟩
  · exact run_glyphOps_ramByte hok hbases hdisp _ (by omega) (hlen ▸ hi)
  · exact run_glyphOps_ramByte_other hok hbases hdisp _ _ (hlen ▸ ha)

/-- Characters one after the other move the cursor six positions for each that has a glyph (R124). -/
theorem execAll_displayChar_cursorIndex (cs : List Byte) (s : State) :
    ∃ t, execAll (cs.map .displayChar) s = some t ∧ t.cursorIndex =
      (s.cursorIndex + 6 * (cs.filter fun b => decide (32 ≤ b.toNat ∧ b.toNat ≤ 90)).length) % 1024 := by
  induction cs generalizing s with
  | nil => exact ⟨s, rfl, (cursorIndex_mod s).symm⟩
  | cons c cs ih =>
    obtain ⟨t, hexec, hcursor⟩ := ih (run (programOf (.displayChar c) s) s)
    refine ⟨t, (execAll_cons _ _ s).trans hexec, ?_⟩
    rw [hcursor, run_displayChar_cursorIndex, Nat.mod_add_mod]
    congr 1
    by_cases h : 32 ≤ c.toNat ∧ c.toNat ≤ 90
    · rw [if_pos h, List.filter_cons_of_pos (by simpa using h), List.length_cons]
      omega
    · rw [if_neg h, List.filter_cons_of_neg (by simpa using h), Nat.add_zero]

/-- Settles O39: a string is its characters up to the first zero byte. -/
theorem stringAdvancesSixPerCharacter : Obligations.StringAdvancesSixPerCharacter :=
  fun text s => execAll_displayChar_cursorIndex (text.takeWhile (· ≠ 0)) s

end Sys2Proof.Machine
end

section
/-! The waveform commands and the block's registers (spec/42_waveform.md R141-R149): a render step is `SampleGen` with
the shift, and after it transactions alone, so its effect on the registers is that of `sampleStep`. -/

namespace Sys2Proof.Machine

/-! ### The sample and the shift (R142, R143) -/

@[simp] theorem sampleAt_shiftIn_last (b : Bool) (buf : BitVec 128) : sampleAt (shiftIn b buf) 127 = b :=
  (BitVec.getLsbD_cons ..).trans (if_pos rfl)

theorem sampleAt_shiftIn (b : Bool) (buf : BitVec 128) {i : Nat} (h : i < 127) :
    sampleAt (shiftIn b buf) i = sampleAt buf (i + 1) := by
  simp [sampleAt, shiftIn, BitVec.getLsbD_cons, h, Nat.ne_of_lt h, Nat.add_comm]

/-- The phase counter counts modulo the pixel-period, which fits its register (R142). -/
theorem toNat_sampleStep_waveT (duty : Nat) {s : State} (h : s.waveT < s.pixelPeriod) :
    (sampleStep duty s).waveT.toNat = (s.waveT.toNat + 1) % s.pixelPeriod.toNat := by
  have hlt : (s.waveT.toNat + 1) % s.pixelPeriod.toNat < s.pixelPeriod.toNat :=
    Nat.mod_lt _ (Nat.zero_lt_of_lt (BitVec.lt_def.mp h))
  exact BitVec.toNat_ofNat .. |>.trans (Nat.mod_eq_of_lt (hlt.trans s.pixelPeriod.isLt))

/-! ### The programs -/

/-- The transactions of a render step, over the buffer as it stands after the shift (R144-R146). -/
def imageOps (cfg : Config) (buf : BitVec 128) : List MicroOp := eraseOps cfg ++ drawOps cfg buf

/-- The state after a render step: the sample and the shift, then the image (R147). -/
def renderStep (duty : Nat) (s : State) : State :=
  run (imageOps s.cfg (sampleStep duty s).waveBuf) (sampleStep duty s)

theorem run_renderOps (duty : Nat) (s : State) : run (renderOps duty s) s = renderStep duty s := rfl

theorem run_waveStep {duty : BitVec 7} (h : duty ≤ 100) (s : State) :
    run (programOf (.waveStep duty) s) s = renderStep duty.toNat s := by
  rw [programOf, progWaveStep, if_neg (BitVec.not_lt.mpr h), run_renderOps]

theorem run_waveStepM (s : State) :
    run (programOf .waveStepM s) s = renderStep (dutyOf s.snapPeriod.toNat s.snapHigh.toNat) s := rfl

theorem run_waveConfig {per : BitVec 7} (h : per ≠ 0) (s : State) :
    run (programOf (.waveConfig per) s) s = { s with pixelPeriod := per, waveT := 0 } := by
  rw [programOf, progWaveConfig, if_neg h]
  rfl

/-- Settles O40: the program is one register step, `PIXEL_PERIOD` written or the operand refused. -/
theorem waveConfigSetsThePeriod : Obligations.WaveConfigSetsThePeriod := by
  refine fun per s => ⟨fun h => ?_, fun h => ?_⟩
  · rw [exec_eq_run, run_waveConfig h]
  · rw [exec_eq_run, programOf, progWaveConfig, if_pos h]
    rfl

/-! ### The registers after a render step -/

theorem isBus_imageOps (cfg : Config) (buf : BitVec 128) : (imageOps cfg buf).all MicroOp.isBus = true := by
  simp [imageOps]

/-- The transactions of a render step leave the registers as `SampleGen` and the shift made them. -/
theorem renderStep_registers (duty : Nat) (s : State) : (sampleStep duty s).sameRegisters (renderStep duty s) :=
  run_registers (isBus_imageOps _ _) _

theorem renderStep_rsp (duty : Nat) (s : State) : (renderStep duty s).rsp = s.rsp :=
  run_rsp_of_silent (silent_renderOps duty s) s

/-- Every column has a segment, so the trace is drawn by at least one transaction (R145). -/
theorem drawOps_ne_nil (cfg : Config) (buf : BitVec 128) : drawOps cfg buf ≠ [] := by
  have hseg (x : BitVec 7) (y : Nat) : hsegOps cfg x y ≠ [] := by
    unfold hsegOps; split <;> simp [addrWriteOps]
  have hcol (x : Nat) : columnOps cfg buf x ≠ [] := by simp [columnOps, hseg]
  simpa [drawOps] using ⟨0, by decide, hcol 0⟩

theorem renderStep_pinsIdle (duty : Nat) (s : State) : (renderStep duty s).pinsIdle = true := by
  obtain ⟨op, ops, hops⟩ := List.exists_cons_of_ne_nil (drawOps_ne_nil s.cfg (sampleStep duty s).waveBuf)
  obtain ⟨t, rfl⟩ : ∃ t, op = .bus t := eq_bus_of_mem (isBus_drawOps _ _) (hops ▸ List.mem_cons_self)
  rw [renderStep, imageOps, run_append, hops]
  exact run_bus_cons_pinsIdle _ _ _

/-- Settles O41: the registers after the step are those of `sampleStep`. -/
theorem waveStepSamplesAndShifts : Obligations.WaveStepSamplesAndShifts := by
  intro duty s hduty hwave
  obtain ⟨hcursor, ⟨hbuf, hphase, hperiod⟩, hcap, hsnap, hstatus, houtside, hseq⟩ :=
    renderStep_registers duty.toNat s
  refine ⟨renderStep duty.toNat s, by rw [exec_eq_run, run_waveStep hduty], fun i hi => ?_, ?_, ?_, hperiod, hcursor,
    hcap, hsnap, hstatus, houtside, hseq, renderStep_rsp _ s, renderStep_pinsIdle _ s⟩
  · rw [hbuf, sampleStep_waveBuf, sampleAt_shiftIn _ _ hi]
  · rw [hbuf, sampleStep_waveBuf, sampleAt_shiftIn_last]
    rfl
  · rw [hphase, toNat_sampleStep_waveT _ hwave]

theorem dutyOf_le (period high : Nat) : dutyOf period high ≤ 100 := by
  unfold dutyOf; split <;> omega

/-- Settles O42: the duty of the snapshot is one that WAVE_STEP accepts. -/
theorem waveStepMRendersAtTheSnapshotDuty : Obligations.WaveStepMRendersAtTheSnapshotDuty := by
  intro s d
  have hd : d ≤ 100 := dutyOf_le _ _
  have hnat : (BitVec.ofNat 7 d).toNat = d := BitVec.toNat_ofNat .. |>.trans (Nat.mod_eq_of_lt (by omega))
  have hle : BitVec.ofNat 7 d ≤ 100 := by rw [BitVec.le_def, hnat]; exact hd
  refine ⟨renderStep d s, by rw [exec_eq_run, run_waveStepM]; rfl, ?_⟩
  rw [exec_eq_run, run_waveStep hle, hnat]

end Sys2Proof.Machine
end

section
/-! The history of the sample buffer (spec/42_waveform.md R151): a list of commands shifts in the samples of
`sampleHistory`, command by command, and nothing of the display takes part. -/

namespace Sys2Proof.Machine

/-! ### Samples shifted in one after the other (R143) -/

/-- The buffer after some samples, the first one shifted in first. -/
def shiftInAll (buf : BitVec 128) (samples : List Bool) : BitVec 128 :=
  samples.foldl (fun b sample => shiftIn sample b) buf

/-- The last samples stand at the end of the buffer, before them what is left of the old entries. -/
theorem sampleAt_shiftInAll (buf : BitVec 128) (samples : List Bool) {j : Nat} (hj : j < 128) :
    sampleAt (shiftInAll buf samples) (127 - j) =
      if j < samples.length then samples.reverse.getD j false else sampleAt buf (127 - j + samples.length) := by
  induction samples using List.reverseRecOn generalizing j with
  | nil => rfl
  | append_singleton samples b ih =>
    rw [shiftInAll, List.foldl_concat, List.length_append, List.length_singleton, List.reverse_concat, ← shiftInAll]
    cases j with
    | zero => simp
    | succ j =>
      have hnext : 127 - (j + 1) + 1 = 127 - j := by omega
      have hold : 127 - (j + 1) + (samples.length + 1) = 127 - j + samples.length := by omega
      rw [sampleAt_shiftIn _ _ (by omega), hnext, hold, ih (by omega), List.getD_cons_succ]
      exact if_congr Nat.succ_lt_succ_iff.symm rfl rfl

/-! ### The samples of a list of commands -/

/-- The samples that a list of commands appends, from a state. -/
def State.samplesOf (s : State) (is : List Instr) : List Bool :=
  sampleHistory (dutyOf s.snapPeriod.toNat s.snapHigh.toNat)
    (if s.measReady then some (dutyOf s.periodTicks.toNat s.highTicks.toNat) else none)
    s.pixelPeriod.toNat s.waveT.toNat is

/-- A command with no part in the samples: no render step, and no write of the period, the snapshot or its ready bit. -/
def samplesNothing : Instr → Bool
  | .waveConfig _ | .waveStep _ | .waveStepM | .consume => false
  | .nop | .sendCmd _ _ | .writeByte _ _ | .readByte _ | .setAddress _ _ | .gotoxy _ _ | .displayChar _ | .derive
  | .readReg _ => true

theorem samplesOf_congr {s t : State} (hphase : t.waveT = s.waveT) (hperiod : t.pixelPeriod = s.pixelPeriod)
    (hcap : s.sameCapture t) (hsnap : s.sameSnapshot t) (is : List Instr) : t.samplesOf is = s.samplesOf is := by
  obtain ⟨-, -, hticks, hhigh, hready⟩ := hcap
  obtain ⟨hsp, hsh⟩ := hsnap
  simp only [State.samplesOf, hphase, hperiod, hticks, hhigh, hready, hsp, hsh]

theorem samplesOf_of_samplesNothing {i : Instr} (h : samplesNothing i = true) (s : State) (is : List Instr) :
    s.samplesOf (i :: is) = s.samplesOf is := by
  cases i with
  | waveConfig | waveStep | waveStepM | consume => cases h
  | _ => rfl

/-- Such a command leaves all that the samples depend on (10_state.md section 2, "written by"). -/
theorem run_samplesNothing {i : Instr} (h : samplesNothing i = true) (hwf : i.wf = true) (s : State) :
    s.sameWave (run (programOf i s) s) ∧ s.sameCapture (run (programOf i s) s) ∧
      s.sameSnapshot (run (programOf i s) s) := by
  obtain ⟨hstep, hstepM, hconfig, hconsume⟩ : (∀ d, i ≠ .waveStep d) ∧ i ≠ .waveStepM ∧ (∀ p, i ≠ .waveConfig p) ∧
      i ≠ .consume := by
    cases i with
    | waveConfig | waveStep | waveStepM | consume => cases h
    | _ => simp
  obtain ⟨t, hexec, -, hbuf, hphase, hper, hmeas, ⟨hrise, hcap, hperiod, hhigh⟩, -⟩ := eachRegisterHasItsWriters i s hwf
  obtain ⟨hready, hsnap⟩ := hmeas hconsume
  obtain rfl : run (programOf i s) s = t := Host.Outcome.next.inj ((exec_eq_run i s).symm.trans hexec)
  exact ⟨⟨hbuf hstep hstepM, hphase hstep hstepM hconfig, hper hconfig⟩, ⟨hrise, hcap, hperiod, hhigh, hready⟩, hsnap⟩

/-- CONSUME puts the duty of the measurement that waits, if one does, into the place of the snapshot's (R166). -/
theorem samplesOf_consume (s : State) (is : List Instr) :
    s.samplesOf (.consume :: is) = (consumeStep s).samplesOf is := by
  cases hready : s.measReady with
  | true => rw [consumeStep_of_ready hready, State.samplesOf, hready]; rfl
  | false => rw [consumeStep_of_not_ready hready]; simp only [State.samplesOf, hready]; rfl

/-- The samples that come after a render step: of what they depend on, the phase counter alone has changed (R142). -/
theorem samplesOf_renderStep (duty : Nat) {s : State} (h : s.waveT < s.pixelPeriod) (is : List Instr) :
    (renderStep duty s).samplesOf is = sampleHistory (dutyOf s.snapPeriod.toNat s.snapHigh.toNat)
      (if s.measReady then some (dutyOf s.periodTicks.toNat s.highTicks.toNat) else none)
      s.pixelPeriod.toNat ((s.waveT.toNat + 1) % s.pixelPeriod.toNat) is := by
  obtain ⟨-, ⟨-, hphase, hperiod⟩, hcap, hsnap, -⟩ := renderStep_registers duty s
  rw [samplesOf_congr hphase hperiod hcap hsnap, State.samplesOf, toNat_sampleStep_waveT duty h]
  rfl

/-- A render step adds its sample in front of those that come after it (R142). -/
theorem samplesOf_waveStep (d : BitVec 7) {s : State} (h : s.waveT < s.pixelPeriod) (is : List Instr) :
    s.samplesOf (.waveStep d :: is) = s.nextSample d.toNat :: (renderStep d.toNat s).samplesOf is := by
  rw [samplesOf_renderStep _ h]
  rfl

theorem samplesOf_waveStepM {s : State} (h : s.waveT < s.pixelPeriod) (is : List Instr) :
    let d := dutyOf s.snapPeriod.toNat s.snapHigh.toNat
    s.samplesOf (.waveStepM :: is) = s.nextSample d :: (renderStep d s).samplesOf is := by
  intro d
  rw [samplesOf_renderStep _ h]
  rfl

/-- A render step keeps `WAVE_T` below the period and shifts its sample in (R142, R143). -/
theorem renderStep_wave (duty : Nat) {s : State} (h : s.waveT < s.pixelPeriod) :
    (renderStep duty s).waveT < (renderStep duty s).pixelPeriod ∧
      (renderStep duty s).waveBuf = shiftIn (s.nextSample duty) s.waveBuf := by
  obtain ⟨-, ⟨hbuf, hphase, hperiod⟩, -⟩ := renderStep_registers duty s
  rw [hphase, hperiod]
  exact ⟨of_decide_eq_true (sampleStep_waveOk (decide_eq_true h)), hbuf⟩

/-- What a command does to the buffer, and what it leaves for the samples of the commands after it. -/
theorem run_programOf_samples (i : Instr) {s : State} (hwf : i.wf = true) (h : s.waveT < s.pixelPeriod) :
    let t := run (programOf i s) s
    t.waveT < t.pixelPeriod ∧
      ∀ is, shiftInAll t.waveBuf (t.samplesOf is) = shiftInAll s.waveBuf (s.samplesOf (i :: is)) := by
  by_cases hi : samplesNothing i = true
  · obtain ⟨⟨hbuf, hphase, hperiod⟩, hcap, hsnap⟩ := run_samplesNothing hi hwf s
    refine ⟨by rwa [hphase, hperiod], fun is => ?_⟩
    rw [hbuf, samplesOf_congr hphase hperiod hcap hsnap, samplesOf_of_samplesNothing hi]
  cases i with
  | waveConfig per =>
    have hper : per ≠ 0 := of_decide_eq_true hwf
    rw [run_waveConfig hper]
    exact ⟨show 0 < per by bv_omega, fun _ => rfl⟩
  | waveStep d =>
    obtain ⟨hphase, hbuf⟩ := renderStep_wave d.toNat h
    rw [run_waveStep (of_decide_eq_true hwf)]
    exact ⟨hphase, fun is => by rw [hbuf, samplesOf_waveStep d h]; rfl⟩
  | waveStepM =>
    obtain ⟨hphase, hbuf⟩ := renderStep_wave (dutyOf s.snapPeriod.toNat s.snapHigh.toNat) h
    rw [run_waveStepM]
    exact ⟨hphase, fun is => by rw [hbuf, samplesOf_waveStepM h]; rfl⟩
  | consume =>
    rw [show run (programOf .consume s) s = consumeStep s from rfl]
    exact ⟨by simpa using h, fun is => by rw [samplesOf_consume, consumeStep_waveBuf]⟩
  | _ => exact absurd rfl hi

/-- A list of commands shifts in the samples of its history (R151). -/
theorem execAll_waveBuf {is : List Instr} (hwf : ∀ i ∈ is, i.wf = true) {s : State} (h : s.waveT < s.pixelPeriod) :
    ∃ t, execAll is s = some t ∧ t.waveBuf = shiftInAll s.waveBuf (s.samplesOf is) := by
  induction is generalizing s with
  | nil => exact ⟨s, rfl, rfl⟩
  | cons i is ih =>
    obtain ⟨hi, his⟩ := List.forall_mem_cons.mp hwf
    obtain ⟨hphase, hsamples⟩ := run_programOf_samples i hi h
    obtain ⟨t, hexec, hbuf⟩ := ih his hphase
    exact ⟨t, (execAll_cons i is s).trans hexec, hbuf.trans (hsamples is)⟩

/-- Settles O47: the buffer is the old one with the history shifted in, and from reset the old one is all 0. -/
theorem bufferHoldsTheLastSamples : Obligations.BufferHoldsTheLastSamples := by
  refine ⟨fun c is hok hwf => ?_, fun s is hwf h => ?_⟩
  · have hne : c.pixelPeriodReset ≠ 0 := Config.ok_pixelPeriodReset hok
    have hphase : (State.resetWith c).waveT < (State.resetWith c).pixelPeriod :=
      show 0 < c.pixelPeriodReset by bv_omega
    obtain ⟨t, hexec, hbuf⟩ := execAll_waveBuf hwf hphase
    refine ⟨t, hexec, fun j hj => ?_⟩
    have hsamples : (State.resetWith c).samplesOf is = sampleHistory 0 none c.pixelPeriodReset.toNat 0 is := rfl
    rw [hbuf, sampleAt_shiftInAll _ _ hj, hsamples]
    split
    next => rfl
    next hlast => rw [List.getD_eq_default _ _ (by simpa using hlast)]; exact BitVec.getLsbD_zero
  · obtain ⟨t, hexec, hbuf⟩ := execAll_waveBuf hwf h
    exact ⟨t, hexec, fun j hj => by rw [hbuf]; exact sampleAt_shiftInAll _ _ hj⟩

end Sys2Proof.Machine
end

section
/-! Which display bytes a render step reaches (spec/42_waveform.md R144-R146, R152): each of its accesses names an
address of the trace region, and reaches that byte only. -/

namespace Sys2Proof.Machine

/-! ### Configurations in which an access reaches the byte it names -/

/-- What an addressed access needs to reach the byte that it names, and no other (20_memory.md R61, R62;
notes/assumptions/15.md). -/
structure Addressable (c : Config) : Prop where
  ok : c.ok = true
  bases : c.basesDistinct = true
  conforming : c.display = .conforming

theorem logicalAddr_eq_iff {p p' : BitVec 3} {c c' : BitVec 7} :
    logicalAddr p c = logicalAddr p' c' ↔ p = p' ∧ c = c' :=
  ⟨logicalAddr_inj, fun ⟨hp, hc⟩ => hp ▸ hc ▸ rfl⟩

/-! ### Lists of steps that leave a byte as it was -/

/-- From every state with the configuration, the steps leave the display byte as it was. -/
def KeepsByte (cfg : Config) (a : Nat) (ops : List MicroOp) : Prop :=
  ∀ s : State, s.cfg = cfg → (run ops s).ramByte a = s.ramByte a

variable {cfg : Config} {a : Nat}

theorem keepsByte_nil : KeepsByte cfg a [] := fun _ _ => rfl

theorem KeepsByte.append {as bs : List MicroOp} (ha : KeepsByte cfg a as) (hb : KeepsByte cfg a bs) :
    KeepsByte cfg a (as ++ bs) := fun s hs => by
  rw [run_append, hb _ ((run_cfg as s).trans hs), ha s hs]

theorem keepsByte_flatMap {α : Type} {l : List α} {f : α → List MicroOp} (h : ∀ x ∈ l, KeepsByte cfg a (f x)) :
    KeepsByte cfg a (l.flatMap f) := by
  induction l with
  | nil => exact keepsByte_nil
  | cons x l ih =>
    obtain ⟨hx, hl⟩ := List.forall_mem_cons.mp h
    rw [List.flatMap_cons]
    exact hx.append (ih hl)

theorem keepsByte_addrWrite (h : Addressable cfg) {p : BitVec 3} {c : BitVec 7} (ha : a ≠ logicalAddr p c) (b : Byte) :
    KeepsByte cfg a (addrWriteOps cfg p c b) := by
  rintro s rfl
  rw [run_addrWrite_ramByte h.ok h.bases h.conforming, if_neg ha]

/-- `RmwOr` writes at its address whatever byte the read has returned, with or without a dummy read before (R60). -/
theorem keepsByte_rmwOr (h : Addressable cfg) {r : Nat} {c : BitVec 7} (ha : a ≠ logicalAddr (rowPage r) c) :
    KeepsByte cfg a (rmwOrOps cfg r c) := by
  rintro s rfl
  set u := run (addrReadOps s.cfg (rowPage r) c) s with hu
  have hcfg : u.cfg = s.cfg := run_cfg _ _
  have hread : u.ramByte a = s.ramByte a := run_addrRead_sameMemory s _ c a
  rw [rmwOrOps, run_append, run_append, ← hu, ← hcfg, run_cons, run_nil, runOp, State.ramByte, ← hread]
  rw [← hcfg] at h
  have hconf : (run (setAddressOps u.cfg (rowPage r) c) u).cfg.display = .conforming := by simpa using h.conforming
  rw [transact_writeOr_disp _ _ _ hconf, Display.byteAt_onWrite, run_setAddress_pointer h.ok h.bases h.conforming,
    if_neg ha]
  exact run_setAddress_ramByte h.ok h.bases h.conforming _ c a

/-! ### The accesses of a render step -/

/-- The display byte lies in the trace region (R8, R144). -/
def InTraceRegion (cfg : Config) (a : Nat) : Prop :=
  ∃ (p : BitVec 3) (c : BitVec 7), cfg.tracePageLo ≤ p.toNat ∧ p.toNat ≤ cfg.tracePageHi ∧ a = logicalAddr p c

/-- The addresses that `Erase` writes, in its order (R144). -/
def traceCells (cfg : Config) : List (BitVec 3 × BitVec 7) :=
  (List.range' cfg.tracePageLo (cfg.tracePageHi + 1 - cfg.tracePageLo)).flatMap fun p =>
    (List.range 128).map fun c => (BitVec.ofNat 3 p, BitVec.ofNat 7 c)

theorem eraseOps_eq (cfg : Config) : eraseOps cfg = (traceCells cfg).flatMap fun x => addrWriteOps cfg x.1 x.2 0 := by
  simp only [eraseOps, traceCells, List.flatMap_assoc, List.flatMap_map]

/-- `Erase` goes through every column of the pages of the trace region, and no other (R144). -/
theorem mem_traceCells (h : cfg.ok = true) {p : BitVec 3} {c : BitVec 7} :
    (p, c) ∈ traceCells cfg ↔ cfg.tracePageLo ≤ p.toNat ∧ p.toNat ≤ cfg.tracePageHi := by
  obtain ⟨-, hhi, -, -⟩ := Config.ok_geometry h
  simp only [traceCells, List.mem_flatMap, List.mem_map, List.mem_range'_1, List.mem_range, Prod.mk.injEq]
  constructor
  · rintro ⟨q, hq, _, _, rfl, _⟩
    rw [BitVec.toNat_ofNat]
    omega
  · rintro ⟨hp, hp'⟩
    exact ⟨p.toNat, by omega, c.toNat, c.isLt, BitVec.ofNat_toNat .., BitVec.ofNat_toNat ..⟩

/-- The byte of a row that the renderer draws on lies in the trace region (R8). -/
theorem inTraceRegion_of_drawn_row (h : cfg.ok = true) {r : Nat} (hr : cfg.top ≤ r) (hr' : r ≤ cfg.bot + 1)
    (c : BitVec 7) : InTraceRegion cfg (logicalAddr (rowPage r) c) := by
  obtain ⟨hlo, hhi, hmax⟩ := Config.drawn_row_erased h hr hr'
  have hpage : (rowPage r).toNat = r / 8 := by rw [rowPage, BitVec.toNat_ofNat]; omega
  exact ⟨_, c, hpage ▸ hlo, hpage ▸ hhi, rfl⟩

/-- A sample's row is one of the two trace levels. -/
theorem level_bounds (cfg : Config) (b : Bool) : cfg.top ≤ level cfg b ∧ level cfg b ≤ cfg.bot := by
  unfold Config.top Config.bot level
  cases b <;> simp

section outside
variable (h : Addressable cfg) (ha : ¬InTraceRegion cfg a)
include h ha

theorem ne_logicalAddr_of_drawn_row {r : Nat} (hr : cfg.top ≤ r) (hr' : r ≤ cfg.bot + 1) (c : BitVec 7) :
    a ≠ logicalAddr (rowPage r) c := by
  rintro rfl
  exact ha (inTraceRegion_of_drawn_row h.ok hr hr' c)

theorem keepsByte_erase : KeepsByte cfg a (eraseOps cfg) := by
  rw [eraseOps_eq]
  refine keepsByte_flatMap fun ⟨p, c⟩ hmem => keepsByte_addrWrite h ?_ _
  obtain ⟨hlo, hhi⟩ := (mem_traceCells h.ok).mp hmem
  rintro rfl
  exact ha ⟨p, c, hlo, hhi, rfl⟩

theorem keepsByte_hseg (x : BitVec 7) (b : Bool) : KeepsByte cfg a (hsegOps cfg x (level cfg b)) := by
  obtain ⟨htop, hbot⟩ := level_bounds cfg b
  have hupper : a ≠ logicalAddr (rowPage (level cfg b)) x := ne_logicalAddr_of_drawn_row h ha htop (by omega) x
  have hlower : a ≠ logicalAddr (rowPage (level cfg b + 1)) x :=
    ne_logicalAddr_of_drawn_row h ha (by omega) (by omega) x
  unfold hsegOps
  split
  · exact keepsByte_addrWrite h hupper _
  · exact (keepsByte_addrWrite h hupper _).append (keepsByte_addrWrite h hlower _)

theorem keepsByte_vcol (c : BitVec 7) : KeepsByte cfg a (vcolOps cfg c) := by
  refine keepsByte_flatMap fun r hr => keepsByte_rmwOr h ?_
  rw [List.mem_range'_1] at hr
  exact ne_logicalAddr_of_drawn_row h ha (by omega) (by omega) c

theorem keepsByte_draw (buf : BitVec 128) : KeepsByte cfg a (drawOps cfg buf) := by
  refine keepsByte_flatMap fun x _ => (keepsByte_hseg h ha _ _).append ?_
  split
  · exact (keepsByte_vcol h ha _).append (keepsByte_vcol h ha _)
  · exact keepsByte_nil

end outside

end Sys2Proof.Machine
end

section
/-! The image after a render step (spec/42_waveform.md R152): how each access of the renderer changes the pixels, then
the pixels after the erase and after each column of the drawing loop. -/

namespace Sys2Proof.Machine

/-- WAVE_STEP and WAVE_STEP_M are each a render step, at some duty (R148, R149). -/
theorem run_renderCommand {i : Instr} (hi : i = .waveStepM ∨ ∃ d, d ≤ 100 ∧ i = .waveStep d) (s : State) :
    ∃ duty, run (programOf i s) s = renderStep duty s := by
  obtain rfl | ⟨d, hd, rfl⟩ := hi
  · exact ⟨_, run_waveStepM s⟩
  · exact ⟨_, run_waveStep hd s⟩

/-- Settles O45: the accesses of the erase and of the drawing loop all name addresses of the region. -/
theorem renderTouchesOnlyTheTraceRegion : Obligations.RenderTouchesOnlyTheTraceRegion := by
  intro i s hi hok hbases hdisp
  obtain ⟨duty, hrun⟩ := run_renderCommand hi s
  refine ⟨renderStep duty s, (exec_eq_run i s).trans (congrArg _ hrun), fun a ha => ?_⟩
  have haddr : Addressable s.cfg := ⟨hok, hbases, hdisp⟩
  have hout : ¬InTraceRegion s.cfg a := fun ⟨p, c, hlo, hhi, heq⟩ => ha p c hlo hhi heq
  exact (keepsByte_erase haddr hout).append (keepsByte_draw haddr hout _) (sampleStep duty s) rfl

/-! ### Pixels under the accesses of the renderer -/

theorem rowPage_eq_iff {r q : Nat} (hr : r < 64) (hq : q < 64) : rowPage r = rowPage q ↔ r / 8 = q / 8 := by
  rw [rowPage, rowPage, ← BitVec.toNat_inj, BitVec.toNat_ofNat, BitVec.toNat_ofNat]
  omega

theorem column_eq_iff {x n : Nat} (hx : x < 128) (hn : n < 128) : BitVec.ofNat 7 x = BitVec.ofNat 7 n ↔ x = n := by
  rw [← BitVec.toNat_inj, BitVec.toNat_ofNat, BitVec.toNat_ofNat]
  omega

variable {cfg : Config} {r x : Nat}

section accesses
variable (h : Addressable cfg)
include h

/-- An addressed write sets the eight pixels of its byte (R58). -/
theorem run_addrWrite_pixel (p : BitVec 3) (c : BitVec 7) (b : Byte) {s : State} (hs : s.cfg = cfg) :
    (run (addrWriteOps cfg p c b) s).pixel r x =
      if rowPage r = p ∧ BitVec.ofNat 7 x = c then b.getLsbD (r % 8) else s.pixel r x := by
  subst hs
  rw [State.pixel, run_addrWrite_ramByte h.ok h.bases h.conforming, apply_ite (BitVec.getLsbD · _)]
  exact if_congr logicalAddr_eq_iff rfl rfl

/-- Zero bytes written at a list of addresses leave their pixels dark. -/
theorem run_blank_pixel (cells : List (BitVec 3 × BitVec 7)) {s : State} (hs : s.cfg = cfg) :
    (run (cells.flatMap fun cell => addrWriteOps cfg cell.1 cell.2 0) s).pixel r x =
      if (rowPage r, BitVec.ofNat 7 x) ∈ cells then false else s.pixel r x := by
  induction cells generalizing s with
  | nil => rfl
  | cons cell cells ih =>
    rw [List.flatMap_cons, run_append, ih ((run_cfg _ s).trans hs), run_addrWrite_pixel h _ _ _ hs]
    by_cases hcell : (rowPage r, BitVec.ofNat 7 x) = cell
    · subst hcell; simp
    · have hmiss : ¬(rowPage r = cell.1 ∧ BitVec.ofNat 7 x = cell.2) := fun ⟨hp, hc⟩ => hcell (Prod.ext hp hc)
      simp only [if_neg hmiss, List.mem_cons, hcell, false_or]

/-- `Erase` leaves every pixel of the region dark (R144). -/
theorem run_erase_pixel (hlo : 8 * cfg.tracePageLo ≤ r) (hhi : r < 8 * (cfg.tracePageHi + 1)) {s : State}
    (hs : s.cfg = cfg) : (run (eraseOps cfg) s).pixel r x = false := by
  obtain ⟨-, hmax, -, -⟩ := Config.ok_geometry h.ok
  have hpage : (rowPage r).toNat = r / 8 := by rw [rowPage, BitVec.toNat_ofNat]; omega
  rw [eraseOps_eq, run_blank_pixel h _ hs, if_pos ((mem_traceCells h.ok).mpr (by omega))]

/-- `RmwOr` lights its pixel and leaves every other as it was (R60). -/
theorem run_rmwOr_pixel (hdummy : cfg.dummyRead = false) (hr : r < 64) {q : Nat} (hq : q < 64) (c : BitVec 7)
    {s : State} (hs : s.cfg = cfg) : (run (rmwOrOps cfg q c) s).pixel r x = true ↔
      s.pixel r x = true ∨ (r = q ∧ BitVec.ofNat 7 x = c) := by
  subst hs
  have hrow : r = q ↔ rowPage r = rowPage q ∧ r % 8 = q % 8 := by rw [rowPage_eq_iff hr hq]; omega
  rw [State.pixel, run_rmwOr_ramByte h.ok h.bases h.conforming hdummy, hrow]
  split
  next hbyte =>
    obtain ⟨hpage, hcol⟩ := logicalAddr_inj hbyte
    simp [State.pixel, getLsbD_rowBit q _ (Nat.mod_lt r (by decide)), hpage, hcol]
  next hbyte =>
    rw [logicalAddr_eq_iff] at hbyte
    exact (or_iff_left fun ⟨⟨hpage, _⟩, hcol⟩ => hbyte ⟨hpage, hcol⟩).symm

/-- `RmwOr` on some rows of a column, one after the other, lights those rows (R60). -/
theorem run_rows_pixel (hdummy : cfg.dummyRead = false) (hr : r < 64) {rows : List Nat} (hrows : ∀ q ∈ rows, q < 64)
    (c : BitVec 7) {s : State} (hs : s.cfg = cfg) :
    (run (rows.flatMap fun q => rmwOrOps cfg q c) s).pixel r x = true ↔
      s.pixel r x = true ∨ (r ∈ rows ∧ BitVec.ofNat 7 x = c) := by
  induction rows generalizing s with
  | nil => simp
  | cons q rows ih =>
    obtain ⟨hq, hrows⟩ := List.forall_mem_cons.mp hrows
    rw [List.flatMap_cons, run_append, ih hrows ((run_cfg _ s).trans hs), run_rmwOr_pixel h hdummy hr hq c hs,
      List.mem_cons]
    tauto

/-- One column of a connector lights the rows from `TOP` to `BOT` (R146). -/
theorem run_vcol_pixel (hdummy : cfg.dummyRead = false) (hr : r < 64) (c : BitVec 7) {s : State} (hs : s.cfg = cfg) :
    (run (vcolOps cfg c) s).pixel r x = true ↔
      s.pixel r x = true ∨ ((cfg.top ≤ r ∧ r ≤ cfg.bot) ∧ BitVec.ofNat 7 x = c) := by
  have hrows : ∀ q ∈ List.range' cfg.top (cfg.bot + 1 - cfg.top), q < 64 := fun q hq => by
    rw [List.mem_range'_1] at hq
    obtain ⟨-, -, hmax⟩ := Config.drawn_row_erased h.ok (r := q) (by omega) (by omega)
    omega
  have hspan : r ∈ List.range' cfg.top (cfg.bot + 1 - cfg.top) ↔ cfg.top ≤ r ∧ r ≤ cfg.bot := by
    rw [List.mem_range'_1]; omega
  rw [vcolOps, run_rows_pixel h hdummy hr hrows c hs, hspan]

/-- A segment lights its two rows, in a column that is dark (R145). -/
theorem run_hseg_pixel (hr : r < 64) {y : Nat} (hy : y + 1 < 64) (c : BitVec 7) {s : State} (hs : s.cfg = cfg)
    (hdark : BitVec.ofNat 7 x = c → s.pixel r x = false) :
    (run (hsegOps cfg c y) s).pixel r x = true ↔
      s.pixel r x = true ∨ (BitVec.ofNat 7 x = c ∧ (r = y ∨ r = y + 1)) := by
  have hbit (q : Nat) : (rowBit q).getLsbD (r % 8) = decide (r % 8 = q % 8) :=
    getLsbD_rowBit q _ (Nat.mod_lt r (by decide))
  by_cases hcol : BitVec.ofNat 7 x = c
  · unfold hsegOps
    split
    next hsame =>
      rw [rowPage_eq_iff (by omega) hy] at hsame
      simp only [run_addrWrite_pixel h _ _ _ hs, rowPage_eq_iff hr (show y < 64 by omega), BitVec.getLsbD_or, hbit,
        hdark hcol, hcol, and_true, true_and]
      split <;> simp <;> omega
    next hsplit =>
      rw [rowPage_eq_iff (by omega) hy] at hsplit
      simp only [run_append, run_addrWrite_pixel h _ _ _ ((run_cfg _ s).trans hs), run_addrWrite_pixel h _ _ _ hs,
        rowPage_eq_iff hr (show y < 64 by omega), rowPage_eq_iff hr hy, hbit, hdark hcol, hcol, and_true, true_and]
      split_ifs <;> simp <;> omega
  · have hkeep (p : BitVec 3) (b : Byte) {u : State} (hu : u.cfg = cfg) :
        (run (addrWriteOps cfg p c b) u).pixel r x = u.pixel r x := by
      rw [run_addrWrite_pixel h _ _ _ hu, if_neg fun hbyte => hcol hbyte.2]
    unfold hsegOps
    split
    · simp [hkeep _ _ hs, hcol]
    · rw [run_append, hkeep _ _ ((run_cfg _ s).trans hs), hkeep _ _ hs]
      simp [hcol]

/-- A connector lights the rows from `TOP` to `BOT` in its column and in the one before (R146). -/
theorem run_vconn_pixel (hdummy : cfg.dummyRead = false) (hr : r < 64) (hx : x < 128) {n : Nat} (hn : 1 ≤ n)
    (hn' : n < 128) {s : State} (hs : s.cfg = cfg) : (run (vconnOps cfg (BitVec.ofNat 7 n)) s).pixel r x = true ↔
      s.pixel r x = true ∨ ((cfg.top ≤ r ∧ r ≤ cfg.bot) ∧ (x = n ∨ x + 1 = n)) := by
  have hbefore : BitVec.ofNat 7 n - 1 = BitVec.ofNat 7 (n - 1) := by bv_omega
  have hcol : x = n - 1 ↔ x + 1 = n := by omega
  rw [vconnOps, run_append, run_vcol_pixel h hdummy hr _ ((run_cfg _ s).trans hs), run_vcol_pixel h hdummy hr _ hs,
    hbefore, column_eq_iff hx hn', column_eq_iff hx (by omega), hcol]
  tauto

end accesses

/-! ### The drawing loop -/

theorem edgeAt_iff {buf : BitVec 128} {n : Nat} : edgeAt cfg buf n = true ↔
    1 ≤ n ∧ level cfg (sampleAt buf n) ≠ level cfg (sampleAt buf (n - 1)) := decide_eq_true_iff

/-- The pixels that the loop of R147 lights when it comes to column n: the segment, and the connector of an edge. -/
def ColumnLights (cfg : Config) (buf : BitVec 128) (n r x : Nat) : Prop :=
  (x = n ∧ (r = level cfg (sampleAt buf n) ∨ r = level cfg (sampleAt buf n) + 1)) ∨
    (edgeAt cfg buf n = true ∧ (cfg.top ≤ r ∧ r ≤ cfg.bot) ∧ (x = n ∨ x + 1 = n))

section drawing
variable (h : Addressable cfg) (hdummy : cfg.dummyRead = false) (buf : BitVec 128) (hr : r < 64)
include h hdummy hr

/-- One pass of the loop, at a column that is dark (R147). -/
theorem run_column_pixel (hx : x < 128) {n : Nat} (hn : n < 128) {s : State} (hs : s.cfg = cfg)
    (hdark : x = n → s.pixel r x = false) :
    (run (columnOps cfg buf n) s).pixel r x = true ↔ s.pixel r x = true ∨ ColumnLights cfg buf n r x := by
  obtain ⟨htop, hbot⟩ := level_bounds cfg (sampleAt buf n)
  obtain ⟨-, -, hmax⟩ := Config.drawn_row_erased h.ok (r := level cfg (sampleAt buf n) + 1) (by omega) (by omega)
  have hcol : BitVec.ofNat 7 x = BitVec.ofNat 7 n ↔ x = n := column_eq_iff hx hn
  have hseg := run_hseg_pixel h hr (y := level cfg (sampleAt buf n)) (by omega) (BitVec.ofNat 7 n) hs
    (fun heq => hdark (hcol.mp heq))
  rw [hcol] at hseg
  rw [columnOps, run_append, ColumnLights]
  split
  next hedge =>
    have hpos : 1 ≤ n := (edgeAt_iff.mp hedge).1
    rw [run_vconn_pixel h hdummy hr hx hpos hn ((run_cfg _ s).trans hs), hseg, or_assoc, and_iff_right hedge]
  next hflat =>
    rw [run_nil, hseg]
    simp only [hflat, Bool.false_eq_true, false_and, or_false]

/-- On a row that is dark, the first n passes of the loop light what each of them lights: the segment of a pass falls on
a column that no pass before has drawn on (R145, R150). -/
theorem run_columns_pixel {n : Nat} (hn : n ≤ 128) {s : State} (hs : s.cfg = cfg)
    (hdark : ∀ x, x < 128 → s.pixel r x = false) (hx : x < 128) :
    (run ((List.range n).flatMap (columnOps cfg buf)) s).pixel r x = true ↔ ∃ m < n, ColumnLights cfg buf m r x := by
  induction n with
  | zero => simp [hdark x hx]
  | succ n ih =>
    have ih := ih (by omega)
    rw [List.range_succ, List.flatMap_append, run_append, List.flatMap_singleton,
      run_column_pixel h hdummy buf hr hx (by omega) ((run_cfg _ s).trans hs), ih, Nat.exists_lt_succ_right]
    rintro rfl
    rw [← Bool.not_eq_true, ih]
    rintro ⟨m, hm, ⟨hcol, -⟩ | ⟨-, -, hcol⟩⟩ <;> omega

end drawing

/-- The passes of the whole loop light a column's segment, and its connectors: its own and its right neighbour's
(R152). -/
theorem exists_columnLights_iff (cfg : Config) (buf : BitVec 128) (hx : x < 128) :
    (∃ m < 128, ColumnLights cfg buf m r x) ↔
      r = level cfg (sampleAt buf x) ∨ r = level cfg (sampleAt buf x) + 1 ∨
        (cfg.top ≤ r ∧ r ≤ cfg.bot ∧ (edgeAt cfg buf x = true ∨ (x ≤ 126 ∧ edgeAt cfg buf (x + 1) = true))) := by
  constructor
  · rintro ⟨m, hm, ⟨rfl, hseg⟩ | ⟨hedge, ⟨htop, hbot⟩, rfl | rfl⟩⟩
    · tauto
    · exact .inr (.inr ⟨htop, hbot, .inl hedge⟩)
    · exact .inr (.inr ⟨htop, hbot, .inr ⟨by omega, hedge⟩⟩)
  · rintro (hseg | hseg | ⟨htop, hbot, hedge | ⟨hlast, hedge⟩⟩)
    · exact ⟨x, hx, .inl ⟨rfl, .inl hseg⟩⟩
    · exact ⟨x, hx, .inl ⟨rfl, .inr hseg⟩⟩
    · exact ⟨x, hx, .inr ⟨hedge, ⟨htop, hbot⟩, .inl rfl⟩⟩
    · exact ⟨x + 1, by omega, .inr ⟨hedge, ⟨htop, hbot⟩, .inr rfl⟩⟩

/-- Settles O44: the erase leaves the region dark, and the drawing loop lights the segments and connectors. -/
theorem renderedImageClosedForm : Obligations.RenderedImageClosedForm := by
  intro i s hi hok hbases hdisp hdummy
  obtain ⟨duty, hrun⟩ := run_renderCommand hi s
  refine ⟨renderStep duty s, (exec_eq_run i s).trans (congrArg _ hrun), fun r x hlo hhi hx => ?_⟩
  have haddr : Addressable s.cfg := ⟨hok, hbases, hdisp⟩
  obtain ⟨-, hmax, -, -⟩ := Config.ok_geometry hok
  obtain ⟨-, ⟨hbuf, -⟩, -⟩ := renderStep_registers duty s
  set u := run (eraseOps s.cfg) (sampleStep duty s) with hu
  have hcfg : u.cfg = s.cfg := run_cfg _ (sampleStep duty s)
  have hdark : ∀ x, x < 128 → u.pixel r x = false := fun _ _ => run_erase_pixel haddr hlo hhi rfl
  have hdrawn := (run_columns_pixel haddr hdummy (sampleStep duty s).waveBuf (by omega) le_rfl hcfg hdark hx).trans
    (exists_columnLights_iff s.cfg _ hx)
  simp only [hbuf]
  rw [renderStep, imageOps, run_append, drawOps, ← hu]
  simp only [edgeAt_iff] at hdrawn
  exact hdrawn

end Sys2Proof.Machine
end

section
/-! Edge capture (spec/43_edge_capture.md): tick values as numbers (R164), and the slot that only takes an event
(R160-R163, R172). -/

namespace Sys2Proof.Machine

/-! ### Tick values -/

/-- `TS_W` is at most 32, so a tick value fits a word (R5). -/
theorem Config.ok_tsW {c : Config} (h : c.ok = true) : c.tsW ≤ 32 := by
  simp only [Config.ok, Config.rangesOk, Bool.and_eq_true, decide_eq_true_eq] at h
  obtain ⟨⟨⟨⟨⟨⟨⟨⟨⟨-, htsW⟩, -⟩, -⟩, -⟩, -⟩, -⟩, -⟩, -⟩, -⟩ := h
  exact htsW

/-- A number below 2^32 is held whole by a word. -/
theorem toNat_ofNat_of_lt {n : Nat} (h : n < 2 ^ 32) : (BitVec.ofNat 32 n).toNat = n := by
  rw [BitVec.toNat_ofNat, Nat.mod_eq_of_lt h]

section ticks
variable {c : Config} (hok : c.ok = true)
include hok

theorem toNat_ofNat_mod_tsW (n : Nat) : (BitVec.ofNat 32 (n % 2 ^ c.tsW)).toNat = n % 2 ^ c.tsW := by
  have hlt : n % 2 ^ c.tsW < 2 ^ c.tsW := Nat.mod_lt _ (Nat.two_pow_pos _)
  have hle : 2 ^ c.tsW ≤ 2 ^ 32 := Nat.pow_le_pow_right Nat.two_pos (Config.ok_tsW hok)
  exact toNat_ofNat_of_lt (hlt.trans_le hle)

theorem toNat_advanceCounter (n : Nat) (a : Word) : (advanceCounter c n a).toNat = (a.toNat + n) % 2 ^ c.tsW :=
  toNat_ofNat_mod_tsW hok _

theorem toNat_tickSub (a b : Word) :
    ((tickSub c a b).toNat : Int) = ((a.toNat : Int) - (b.toNat : Int)) % (2 ^ c.tsW : Int) := by
  have hword : ((a - b).toNat : Int) ≡ a.toNat - b.toNat [ZMOD (2 ^ 32 : Int)] := by
    rw [Int.ModEq, BitVec.toNat_sub]
    omega
  rw [tickSub, tsMask, toNat_ofNat_mod_tsW hok, Int.natCast_emod, Nat.cast_pow, Nat.cast_ofNat]
  exact hword.of_dvd (pow_dvd_pow 2 (Config.ok_tsW hok))

/-- The counter's difference is the interval modulo 2^TS_W, through any wrap (R164). -/
theorem tickSub_advanceCounter (n : Nat) (a : Word) : (tickSub c (advanceCounter c n a) a).toNat = n % 2 ^ c.tsW := by
  have hdiff := toNat_tickSub hok (advanceCounter c n a) a
  rw [toNat_advanceCounter hok] at hdiff
  zify
  rw [hdiff]
  push_cast
  rw [Int.emod_sub_emod, add_sub_cancel_left]

/-- Ticks add up: the counter wraps once or often, with the same result (R160). -/
theorem advanceCounter_advanceCounter (m n : Nat) (a : Word) :
    advanceCounter c n (advanceCounter c m a) = advanceCounter c (m + n) a := by
  rw [advanceCounter, toNat_advanceCounter hok, Nat.mod_add_mod, Nat.add_assoc, ← advanceCounter]

end ticks

/-- Settles O20: the difference of words is taken modulo 2^32, which 2^TS_W divides. -/
theorem tickDifferenceIsModular : Obligations.TickDifferenceIsModular := by
  intro c hok
  exact ⟨toNat_tickSub hok, fun a n _ hn => (tickSub_advanceCounter hok n a).trans (Nat.mod_eq_of_lt hn)⟩

/-! ### The slot that only takes an event -/

/-- A slot in which nothing but an edge event arrives and the sequencer stands still opens, and no more (R160, R230). -/
theorem step_of_onlyEvent {s : State} (hok : s.cfg.ok = true) (h : s.nextSlot.onlyEvent = true) :
    step s = .next (openSlot s.nextSlot s.popSlot) := by
  obtain ⟨⟨⟨hr, hcmd⟩, hready⟩, hpace⟩ : ((s.nextSlot.rst = false ∧ s.nextSlot.cmd = none) ∧
      s.nextSlot.rspReady = false) ∧ s.nextSlot.pace = .wait := by simpa [Slot.onlyEvent] using h
  rw [step_of_ok hok, playSlot, hr, hcmd, hready, hpace]
  simp [progress]

/-- An event whose polarity does not match PHASE leaves the capture registers (R163). -/
theorem openSlot_mismatched {sl : Slot} {s : State} (he : sl.edge = some s.phase.bit) :
    openSlot sl s = { s with
      pins := { s.pins with rstN := true }, tsCounter := advanceCounter s.cfg sl.ticks s.tsCounter } := by
  cases hphase : s.phase <;> simp [openSlot, captureEvent, he, hphase, CapPhase.bit]

/-- Settles O17: the slot opens, and its event is the one awaited. -/
theorem risingEventAwaited : Obligations.RisingEventAwaited := by
  intro s hok hsl he hphase
  exact ⟨_, (step_of_onlyEvent hok hsl).trans (congrArg _ (openSlot_rising (s := s.popSlot) he hphase)), rfl, rfl⟩

/-- Settles O18: the slot opens, and its event is the one awaited; MEAS_READY is not looked at. -/
theorem fallingEventAwaited : Obligations.FallingEventAwaited := by
  intro s hok hsl he hphase
  exact ⟨_, (step_of_onlyEvent hok hsl).trans (congrArg _ (openSlot_falling (s := s.popSlot) he hphase)), rfl, rfl⟩

/-- Settles O19: the slot opens, and its event is not the one awaited. -/
theorem mismatchedEventIgnored : Obligations.MismatchedEventIgnored := by
  rintro s rising hok hsl he rfl
  exact (step_of_onlyEvent hok hsl).trans (congrArg _ (openSlot_mismatched (s := s.popSlot) he))

/-- Settles O21: the first rise puts its timestamp in PREV_RISE, and the later two events are measured from there. -/
theorem measurementSequence : Obligations.MeasurementSequence := by
  intro s n a b rest hok _ hphase hab ev s0
  refine ⟨_, _, _, (step_of_onlyEvent (by exact hok) rfl).trans (congrArg _ (openSlot_rising rfl hphase)),
    (step_of_onlyEvent (by exact hok) rfl).trans (congrArg _ (openSlot_falling rfl rfl)),
    (step_of_onlyEvent (by exact hok) rfl).trans (congrArg _ (openSlot_rising rfl rfl)), rfl, ?_, rfl, rfl, ?_⟩
  · exact (tickSub_advanceCounter hok a _).trans (Nat.mod_eq_of_lt (by omega))
  · have hsum := tickSub_advanceCounter hok (a + b) (advanceCounter s.cfg n s.tsCounter)
    rw [← advanceCounter_advanceCounter hok] at hsum
    exact hsum.trans (Nat.mod_eq_of_lt hab)

end Sys2Proof.Machine
end

section
/-! CONSUME and DERIVE run to their end (spec/43_edge_capture.md R166-R170). -/

namespace Sys2Proof.Machine

/-- Settles O48: CONSUME is its one step. -/
theorem consumeTakesTheMeasurement : Obligations.ConsumeTakesTheMeasurement := fun s =>
  ⟨fun h => (exec_eq_run .consume s).trans (congrArg _ (consumeStep_of_ready h)),
    fun h => (exec_eq_run .consume s).trans (congrArg _ (consumeStep_of_not_ready h))⟩

/-- The tick rate and the numerator of the tick duration have 32 bits (R5). -/
theorem Config.ok_tickRates {c : Config} (h : c.ok = true) : c.tickRateHz < 2 ^ 32 ∧ c.tickUsNum < 2 ^ 32 := by
  simp only [Config.ok, Config.rangesOk, Bool.and_eq_true, decide_eq_true_eq] at h
  obtain ⟨⟨⟨⟨⟨⟨⟨⟨-, -, hrate⟩, hnum⟩, -⟩, -⟩, -⟩, -⟩, -⟩, -⟩ := h
  exact ⟨hrate, hnum⟩

/-- The frequency is at most the tick rate (R167). -/
theorem freqOf_le (cfg : Config) (period : Nat) : freqOf cfg period ≤ cfg.tickRateHz := by
  unfold freqOf
  split
  · exact Nat.zero_le _
  · exact Nat.div_le_self _ _

/-- The period in microseconds has 64 bits (R169). -/
theorem periodUsOf_lt {cfg : Config} (hok : cfg.ok = true) (period : Word) :
    periodUsOf cfg period.toNat < 2 ^ 32 * 2 ^ 32 :=
  (Nat.div_le_self _ _).trans_lt (Nat.mul_lt_mul'' period.isLt (Config.ok_tickRates hok).2)

/-- A number of 64 bits is its low and its high word (R63). -/
theorem low_add_high {u : Nat} (h : u < 2 ^ 32 * 2 ^ 32) :
    (BitVec.ofNat 32 u).toNat + 2 ^ 32 * (BitVec.ofNat 32 (u / 2 ^ 32)).toNat = u := by
  rw [BitVec.toNat_ofNat, BitVec.toNat_ofNat, Nat.mod_eq_of_lt (Nat.div_lt_of_lt_mul h), Nat.mod_add_div]

/-- Settles O50: DERIVE is its one step, and each quotient is held whole by its word, or by its two words. -/
theorem deriveComputesFromTheSnapshot : Obligations.DeriveComputesFromTheSnapshot := by
  intro s hok P H
  have hfreq : freqOf s.cfg P ≤ s.cfg.tickRateHz := freqOf_le _ _
  have hduty : dutyOf P H ≤ 100 := dutyOf_le _ _
  have hf : (BitVec.ofNat 32 (freqOf s.cfg P)).toNat = freqOf s.cfg P :=
    toNat_ofNat_of_lt (hfreq.trans_lt (Config.ok_tickRates hok).1)
  have hd : (BitVec.ofNat 32 (dutyOf P H)).toNat = dutyOf P H := toNat_ofNat_of_lt (by omega)
  exact ⟨_, _, _, _, exec_eq_run .derive s, hf, hf.trans_le hfreq, hd, hd.trans_le hduty,
    low_add_high (periodUsOf_lt hok s.snapPeriod)⟩

end Sys2Proof.Machine
end

section
/-! A command with edge events and ticks between its steps (spec/43_edge_capture.md R171): but for CONSUME and READ_REG
no step reads or writes what the opening of a slot writes, so the events can as well be taken after the command. -/

namespace Sys2Proof.Machine

/-! ### Steps that events do not reach -/

/-- The steps that read no capture register (R171). -/
def MicroOp.eventBlind : MicroOp → Bool
  | .consume | .readReg _ => false
  | .bus _ | .setCursor _ _ | .setPeriod _ | .sample _ | .derive | .illegal _ => true

/-- READ_REG's step answers a word, and beside READ_REG only READ_BYTE, CONSUME and DERIVE do (R93). -/
theorem readReg_of_mem {i : Instr} (hwf : i.wf = true) {s : State} {r : Reg} (h : .readReg r ∈ programOf i s) :
    ∃ x, i = .readReg x := by
  have hcount : 1 ≤ i.responseCount :=
    (List.le_sum_of_mem (List.mem_map_of_mem h)).trans_eq (programOf_responseCount hwf s)
  cases i with
  | readReg x => exact ⟨x, rfl⟩
  | readByte | consume | derive => cases List.mem_singleton.mp h
  | _ => exact absurd hcount (Nat.not_succ_le_zero 0)

theorem programOf_eventBlind {i : Instr} (hwf : i.wf = true) (hc : i ≠ .consume) (hr : ∀ x, i ≠ .readReg x)
    (s : State) : (programOf i s).all MicroOp.eventBlind = true := by
  refine List.all_eq_true.mpr fun op hmem => ?_
  cases op with
  | consume => exact absurd (programOf_mayIssue hmem) hc
  | readReg r =>
    obtain ⟨x, hx⟩ := readReg_of_mem hwf hmem
    exact absurd hx (hr x)
  | _ => rfl

/-! ### What passes beside a step -/

/-- A state with the part that passes beside a step taken from another: what the opening of a slot writes, the schedule,
and the steps outstanding. -/
def State.beside (s v : State) : State :=
  { s with
    pins := { s.pins with rstN := v.pins.rstN }, tsCounter := v.tsCounter
    prevRise := v.prevRise, phase := v.phase, periodTicks := v.periodTicks, highTicks := v.highTicks
    measReady := v.measReady, inputs := v.inputs, remaining := v.remaining }

/-- The opening of a slot writes nothing else (R160). -/
theorem openSlot_eq_beside (sl : Slot) (s : State) (l : List Slot) (ops : List MicroOp) :
    { openSlot sl s with inputs := l, remaining := ops } =
      s.beside { openSlot sl s with inputs := l, remaining := ops } := by
  simp [State.beside]

theorem busEffect_beside (t : Txn) (s v : State) : busEffect t (s.beside v) = (busEffect t s).beside v := by
  have hwrite (k : Option Chip) (b : Byte) : busWrData k b (s.beside v) = (busWrData k b s).beside v := by
    unfold busWrData State.beside; dsimp only; split <;> rfl
  cases t with
  | cmd k b => unfold busEffect busCmd State.beside; dsimp only; split <;> rfl
  | write k b => exact hwrite k b
  | writeOr k mask => exact hwrite k _
  | read k u => unfold busEffect busRdData State.beside; cases u <;> dsimp only <;> split <;> rfl

/-- A step that reads no capture register leaves that part to whoever writes it. A transaction ends at the idle levels,
`lcd_rst_n` among them, so there the level has to be 1. -/
theorem runOp_beside {op : MicroOp} (hop : op.eventBlind = true) (s : State) {v : State} (hv : v.pins.rstN = true) :
    runOp op (s.beside v) = (runOp op s).beside v := by
  cases op with
  | consume | readReg => cases hop
  | bus t =>
    simp only [runOp, transact, busEffect_beside]
    simp only [releaseBus, State.beside, hv]
    rfl
  | _ => rfl

/-- What the opening of a slot writes is a function of the configuration, the counter and the capture registers. -/
theorem openSlot_capture_congr (sl : Slot) {s t : State} (hcfg : t.cfg = s.cfg) (hts : t.tsCounter = s.tsCounter)
    (h : s.sameCapture t) : (openSlot sl s).sameCapture (openSlot sl t) := by
  obtain ⟨hprev, hphase, hperiod, hhigh, hready⟩ := h
  simp only [openSlot, captureEvent, hcfg, hts, hprev, hphase]
  split
  · split <;> simp [State.sameCapture, *]
  · simp [State.sameCapture, *]

/-- What was opened before a step can as well be opened after it. -/
theorem runOp_openSlot_with {op : MicroOp} (hop : op.eventBlind = true) (sl : Slot) (s : State) (l : List Slot)
    (ops : List MicroOp) : runOp op { openSlot sl s with inputs := l, remaining := ops } =
      { openSlot sl (runOp op s) with inputs := l, remaining := ops } := by
  obtain ⟨hcfg, hts, -, -, -, -, hprev, hphase, hperiod, hhigh⟩ := runOp_frame op s
  have hready : (runOp op s).measReady = s.measReady := (runOp_measurement (by rintro rfl; cases hop) s).1
  obtain ⟨hprev', hphase', hperiod', hhigh', hready'⟩ :=
    openSlot_capture_congr sl hcfg hts ⟨hprev, hphase, hperiod, hhigh, hready⟩
  calc runOp op { openSlot sl s with inputs := l, remaining := ops }
    _ = runOp op (s.beside { openSlot sl s with inputs := l, remaining := ops }) := by rw [← openSlot_eq_beside]
    _ = (runOp op s).beside { openSlot sl s with inputs := l, remaining := ops } := runOp_beside hop s (by simp)
    _ = (runOp op s).beside { openSlot sl (runOp op s) with inputs := l, remaining := ops } := by
      simp [State.beside, hcfg, hts, hprev', hphase', hperiod', hhigh', hready']
    _ = { openSlot sl (runOp op s) with inputs := l, remaining := ops } := (openSlot_eq_beside ..).symm

theorem State.with_schedule_self {s : State} {l : List Slot} {ops : List MicroOp} (hl : s.inputs = l)
    (hops : s.remaining = ops) : { s with inputs := l, remaining := ops } = s := by
  subst hl hops; rfl

theorem run_openSlot {ops : List MicroOp} (hops : ops.all MicroOp.eventBlind = true) (sl : Slot) (s : State) :
    run ops (openSlot sl s) = openSlot sl (run ops s) := by
  induction ops generalizing s with
  | nil => rfl
  | cons op ops ih =>
    obtain ⟨hop, hops⟩ := Bool.and_eq_true_iff.mp hops
    obtain ⟨-, -, hin, -⟩ := runOp_frame op s
    have hstep := runOp_openSlot_with hop sl s s.inputs s.remaining
    rw [State.with_schedule_self (by simp) (by simp), State.with_schedule_self (by simpa using hin) (by simp)] at hstep
    rw [run_cons, hstep, ih hops, run_cons]

/-! ### A command carried on one step a slot -/

/-- The slot opens and one step is made; that the slot opened first makes no difference. -/
theorem step_of_oneStep {op : MicroOp} (hop : op.eventBlind = true) {sl : Slot} (hsl : sl.oneStep = true) {s : State}
    (hok : s.cfg.ok = true) (hflight : s.flight = none) (l : List Slot) (ops : List MicroOp) :
    step { s with inputs := sl :: l, remaining := op :: ops } =
      .next { openSlot sl (runOp op s) with inputs := l, remaining := ops } := by
  obtain ⟨⟨⟨hr, -⟩, -⟩, hpace⟩ : ((sl.rst = false ∧ sl.cmd = none) ∧ sl.rspReady = false) ∧
      sl.pace = .transaction := by simpa [Slot.oneStep] using hsl
  refine (step_of_outstanding (s := { s with inputs := sl :: l, remaining := op :: ops }) hok hr (by simp)).trans
    (congrArg _ ?_)
  calc progress sl.pace (openSlot sl { s with inputs := l, remaining := op :: ops })
    _ = finishStep { openSlot sl s with inputs := l, remaining := op :: ops } := by rw [hpace, openSlot_with]; rfl
    _ = runOp op { openSlot sl s with inputs := l, remaining := ops } := by simp [finishStep, hflight]
    _ = { openSlot sl (runOp op s) with inputs := l, remaining := ops } := runOp_openSlot_with hop sl s l ops

/-- As many slots as steps carry a program to its end, and leave their events taken after it. -/
theorem run_oneStep_slots {ops : List MicroOp} (hops : ops.all MicroOp.eventBlind = true) {slots : List Slot}
    (hslots : slots.all Slot.oneStep = true) (hlen : slots.length = ops.length) {s : State} (hok : s.cfg.ok = true)
    (hflight : s.flight = none) :
    Host.Core.run Sys2Proof.core slots.length { s with inputs := slots, remaining := ops } =
      .next { slots.foldl (fun t sl => openSlot sl t) (run ops s) with inputs := [], remaining := [] } := by
  induction ops generalizing slots s with
  | nil =>
    cases List.length_eq_zero_iff.mp hlen
    rfl
  | cons op ops ih =>
    obtain ⟨sl, slots, rfl⟩ := List.exists_cons_of_length_eq_add_one hlen
    obtain ⟨hop, hops⟩ := Bool.and_eq_true_iff.mp hops
    obtain ⟨hsl, hslots⟩ := Bool.and_eq_true_iff.mp hslots
    obtain ⟨hcfg, -, -, -, -, hfl, -⟩ := runOp_frame op s
    have hrest := ih hops hslots (Nat.succ.inj hlen) (s := openSlot sl (runOp op s)) (by simpa [hcfg] using hok)
      (by simpa [hfl] using hflight)
    rw [run_openSlot hops] at hrest
    exact (run_succ_of_step (M := Sys2Proof.core) (step_of_oneStep hop hsl hok hflight slots ops) _).trans hrest

/-- Settles O22: the first slot accepts the command, and its steps read no register that events write, so the events of
the later slots can as well be taken when the command has ended. -/
theorem interleavedEventsDoNotChangeACommand : Obligations.InterleavedEventsDoNotChangeACommand := by
  intro s u w i first rest hok hidle hinputs hr hw hpace hd hconsume hreadReg hrest hlen hexec
  have hnext : s.nextSlot = first := by simp [State.nextSlot, hinputs]
  set t := openSlot first s.popSlot with ht
  cases (exec_eq_run i t).symm.trans hexec
  have hbegun : step s = .next { t with inputs := rest, remaining := programOf i t } := by
    have hschedule : t.inputs = rest := by simp [ht, hinputs]
    rw [← hnext] at hr hw hpace
    rw [step_begins hok hidle hr hw (by simp [hpace]) hd, hnext, ← ht, begin, ← hschedule]
  have hblind := programOf_eventBlind ((decode_eq_ok_iff w i).mp hd).1 hconsume hreadReg t
  have hnone : (rest.foldl (fun t sl => openSlot sl t) (run (programOf i t) t)).remaining = [] := by
    simpa [ht] using remaining_of_idle hidle
  rw [run_succ_of_step (M := Sys2Proof.core) hbegun, run_oneStep_slots hblind hrest hlen (by simpa [ht] using hok)
    (by simpa [ht] using flight_of_idle hidle), ← hnone]

end Sys2Proof.Machine
end

section
/-! NOP and READ_REG (spec/44_register_access.md R180-R183): what READ_REG answers, and the layout of the words that are
put together from fields. -/

namespace Sys2Proof.Machine

/-- Settles O26: the program of NOP has no step. -/
theorem nopLeavesAllState : Obligations.NopLeavesAllState := fun s => exec_eq_run .nop s

/-! ### The words put together from fields -/

section layouts
variable {a c e : Nat}

theorem slices_fourBits (x : BitVec a) (f : BitVec c) (b₃ b₂ b₁ b₀ : Bool) :
    let w := x ++ f ++ BitVec.ofBool b₃ ++ BitVec.ofBool b₂ ++ BitVec.ofBool b₁ ++ BitVec.ofBool b₀
    w.getLsbD 0 = b₀ ∧ w.getLsbD 1 = b₁ ∧ w.getLsbD 2 = b₂ ∧ w.getLsbD 3 = b₃ ∧
      w.extractLsb' (1 + (1 + (1 + 1))) c = f ∧ w.extractLsb' (1 + (1 + (1 + (1 + c)))) a = x := by
  simp only [slice_append_upper, slice_append_from, BitVec.extractLsb'_append_eq_right, BitVec.extractLsb'_eq_self,
    BitVec.getLsbD_append]
  simp

theorem slices_bitBetween (x : BitVec a) (f : BitVec c) (b : Bool) (g : BitVec e) :
    let w := x ++ f ++ BitVec.ofBool b ++ g
    w.extractLsb' (e + 1) c = f ∧ w.extractLsb' 0 e = g ∧ w.getLsbD e = b ∧ w.extractLsb' (e + (1 + c)) a = x := by
  simp only [slice_append_upper, slice_append_from, BitVec.extractLsb'_append_eq_right, BitVec.extractLsb'_eq_self,
    BitVec.getLsbD_append]
  simp

end layouts

/-- The STATUS word, field by field (R183). -/
theorem statusWord_fields (s : State) :
    s.statusWord.getLsbD 0 = s.ill ∧ s.statusWord.getLsbD 1 = s.measReady ∧ s.statusWord.getLsbD 2 = s.phase.bit ∧
      s.statusWord.getLsbD 3 = false ∧ s.statusWord.extractLsb' 4 4 = s.illCause ∧
      s.statusWord.extractLsb' 8 24 = 0 :=
  slices_fourBits 0#24 s.illCause false s.phase.bit s.measReady s.ill

theorem bit_eq_decide (p : CapPhase) : p.bit = decide (p = .awaitingFalling) := by cases p <;> rfl

/-- The CURSOR word, field by field: GOTOXY's two operands where GOTOXY has them, every other bit 0 (R182). -/
theorem cursorWord_fields (s : State) :
    s.cursorWord.extractLsb' 8 3 = s.curPage ∧ s.cursorWord.extractLsb' 0 7 = s.curCol ∧
      s.cursorWord.getLsbD 7 = false ∧ s.cursorWord.extractLsb' 11 21 = 0 :=
  slices_bitBetween 0#21 s.curPage false s.curCol

/-- Bit j of word k of the buffer is entry `32 k + j` (R182). -/
theorem getLsbD_waveBufWord (s : State) (k : Nat) {j : Nat} (hj : j < 32) :
    (s.waveBufWord k).getLsbD j = sampleAt s.waveBuf (32 * k + j) := by
  simp [State.waveBufWord, sampleAt, hj]

/-! ### The register of an index -/

theorem exists_ofIndex {idx : BitVec 8} (h : idx ≤ 0x0C) : ∃ r, Reg.ofIndex idx = some r := by
  cases hr : Reg.ofIndex idx with
  | some r => exact ⟨r, rfl⟩
  | none => exact absurd h (by simpa [Instr.wf] using wf_readReg_of_ofIndex_none idx hr)

theorem regWord_waveBuf {idx : BitVec 8} {r : Reg} (hr : Reg.ofIndex idx = some r) (hlo : 0x04 ≤ idx)
    (hhi : idx ≤ 0x07) (s : State) : s.regWord r = s.waveBufWord (idx.toNat - 4) := by
  obtain rfl | rfl | rfl | rfl : idx = 4 ∨ idx = 5 ∨ idx = 6 ∨ idx = 7 := by bv_omega
  all_goals cases hr; rfl

/-- READ_REG of an assigned index responds with the register's word, and that is all it does (R181). -/
theorem exec_readReg {idx : BitVec 8} {r : Reg} (hr : Reg.ofIndex idx = some r) (s : State) :
    exec (.readReg idx) s = .next (s.respond [s.regWord r]) := by
  rw [exec_eq_run, programOf, progReadReg, hr]
  rfl

/-- Settles O51: the index names a register, and the word answered is that register's. -/
theorem readRegAnswersTheRegister : Obligations.ReadRegAnswersTheRegister := by
  intro idx s hidx
  obtain ⟨r, hr⟩ := exists_ofIndex hidx
  refine ⟨s.regWord r, exec_readReg hr s, ?status, ?cursor, ?period, ?waveT, ?waveBuf, ?_, ?_, ?_, ?_, ?_⟩
  case status =>
    rintro rfl; cases hr
    rw [← bit_eq_decide]
    exact statusWord_fields s
  case cursor => rintro rfl; cases hr; exact cursorWord_fields s
  case period => rintro rfl; cases hr; exact BitVec.toNat_setWidth_of_le (by decide)
  case waveT => rintro rfl; cases hr; exact BitVec.toNat_setWidth_of_le (by decide)
  case waveBuf =>
    intro hlo hhi j hj
    rw [regWord_waveBuf hr hlo hhi, getLsbD_waveBufWord s _ hj]
  all_goals rintro rfl; cases hr; rfl

end Sys2Proof.Machine
end

section
/-! Illegal commands and words, and an absent display (spec/60_exceptions.md): what they leave as it was, and that
nothing stops the machine. No register and no response but READ_BYTE's takes anything from the display (R211), because a
program and each of its steps do the same in a state with the display blanked out. -/

namespace Sys2Proof.Machine

/-! ### Illegal words and operands (R201) -/

/-- Settles O7: the slot opens, and then IllegalCommand writes the marks, which readiness does not depend on. -/
theorem illegalWordChangesOnlyTheMarks : Obligations.IllegalWordChangesOnlyTheMarks := by
  intro s w c hok hidle hr hw hd u code
  have hstep : step s = .next (illegalCommand c u) := step_of_illegal_word hok hidle hr hw hd
  have hcode : c.code = code := by cases c <;> rfl
  have hready : u.cmdReady = true := (openSlot_cmdReady _ _).trans hidle
  exact ⟨illegalCommand c u, hstep, by rw [illegalCommand, hcode], hready⟩

/-- An index over 0x0C names no register (R88, R182). -/
theorem ofIndex_eq_none {idx : BitVec 8} (h : 0x0C < idx) : Reg.ofIndex idx = none := by
  have hlt : 12 < idx.toNat := h
  unfold Reg.ofIndex
  split
  case h_14 => rfl
  all_goals omega

/-- Settles O43: each of the three programs is IllegalCommand alone. -/
theorem operandsOutOfDomainAreIllegal : Obligations.OperandsOutOfDomainAreIllegal := by
  refine fun s => ⟨fun duty h => ?_, fun x h => ?_, exec_eq_run _ s⟩
  · rw [exec_eq_run, programOf, progWaveStep, if_pos h]
    rfl
  · rw [exec_eq_run, programOf, progReadReg, ofIndex_eq_none h]
    rfl

/-! ### No stop (R200) -/

theorem acceptWord_answers (w : Word) (pace : Pace) (s : State) : ∃ t, acceptWord w pace s = .next t := by
  obtain ⟨c, -, h⟩ | ⟨i, -, -, h⟩ | ⟨i, -, -, h⟩ := acceptWord_cases w pace s
  · exact ⟨_, h⟩
  · exact ⟨_, h.trans (exec_eq_run i s)⟩
  · exact ⟨_, h⟩

theorem playSlot_answers (sl : Slot) (s : State) : ∃ t, playSlot sl s = .next t := by
  cases hr : sl.rst with
  | true => exact ⟨_, playSlot_of_rst sl s hr⟩
  | false =>
    cases hidle : s.idle with
    | false => exact ⟨_, playSlot_of_busy sl s hr hidle⟩
    | true =>
      cases hw : sl.cmd with
      | some w =>
        rw [playSlot_of_word hr hidle hw]
        exact acceptWord_answers w sl.pace _
      | none => exact ⟨openSlot sl s, by simp [playSlot, hr, hidle, hw]⟩

/-- Settles O8: in a legal configuration the slot is played, and every slot has an end. -/
theorem nothingStopsTheMachine : Obligations.NothingStopsTheMachine := by
  intro s hok
  rw [step_of_ok hok]
  exact playSlot_answers _ _

/-! ### A step of the sequencer with the display blanked out (R211) -/

theorem responseCount_bus_eq_zero {t : Txn} (h : ∀ k, t ≠ .read k .respond) : (MicroOp.bus t).responseCount = 0 := by
  cases t with
  | read k u =>
    cases u with
    | respond => exact absurd rfl (h k)
    | _ => rfl
  | _ => rfl

/-- Of the block, a transaction whose byte is not answered changes the pins alone, which it leaves idle (R35, R53). -/
theorem transact_withoutDisplay {t : Txn} (h : ∀ k, t ≠ .read k .respond) (s : State) :
    (transact t s).withoutDisplay = { s.withoutDisplay with pins := Pins.idle s.cfg 0 } := by
  have hrsp : (transact t s).rsp = s.rsp := runOp_rsp_of_silent (op := .bus t) (responseCount_bus_eq_zero h) s
  have hpins : (transact t s).pins = Pins.idle s.cfg (Config.idleDbOut (busEffect t s).draws) := by simp [transact]
  simp [State.withoutDisplay, hrsp, hpins, Pins.idle]

theorem consumeStep_withoutDisplay (s : State) :
    (consumeStep s).withoutDisplay = (consumeStep s.withoutDisplay).withoutDisplay := by
  cases hready : s.measReady with
  | true => rw [consumeStep_of_ready hready, consumeStep_of_ready (s := s.withoutDisplay) hready]; rfl
  | false => rw [consumeStep_of_not_ready hready, consumeStep_of_not_ready (s := s.withoutDisplay) hready]; rfl

/-- Only the read that is answered takes anything from the display into the block. -/
theorem runOp_withoutDisplay {op : MicroOp} (h : ∀ k, op ≠ .bus (.read k .respond)) (s : State) :
    (runOp op s).withoutDisplay = (runOp op s.withoutDisplay).withoutDisplay := by
  cases op with
  | bus t =>
    have ht (k : Option Chip) : t ≠ .read k .respond := fun hk => h k (congrArg _ hk)
    exact (transact_withoutDisplay ht s).trans (transact_withoutDisplay ht s.withoutDisplay).symm
  | consume => exact consumeStep_withoutDisplay s
  | _ => rfl

theorem run_withoutDisplay {ops : List MicroOp} (h : ∀ op ∈ ops, ∀ k, op ≠ .bus (.read k .respond)) {s s' : State}
    (hs : s.withoutDisplay = s'.withoutDisplay) : (run ops s).withoutDisplay = (run ops s').withoutDisplay := by
  induction ops generalizing s s' with
  | nil => exact hs
  | cons op ops ih =>
    obtain ⟨hop, hops⟩ := List.forall_mem_cons.mp h
    exact ih hops (by rw [runOp_withoutDisplay hop, hs, ← runOp_withoutDisplay hop])

/-- The transactions of a list of steps are counted by the bus trace (R53). -/
theorem run_trace_length_eq_add_countP (ops : List MicroOp) (s : State) :
    (run ops s).trace.length = s.trace.length + ops.countP MicroOp.isBus := by
  induction ops generalizing s with
  | nil => rfl
  | cons op ops ih =>
    have hop : (runOp op s).trace.length = s.trace.length + if op.isBus then 1 else 0 := by
      cases op with
      | bus t => exact transact_trace_length t s
      | _ => simp [runOp, MicroOp.isBus]
    rw [run_cons, ih, hop, List.countP_cons]
    omega

/-! ### A command with the display blanked out (R211) -/

theorem glyphOps_with_display (cfg : Config) (k : DisplayKind) (page : BitVec 3) (col : BitVec 7) (bs : List Byte) :
    glyphOps { cfg with display := k } page col bs = glyphOps cfg page col bs := by
  induction bs generalizing page col with
  | nil => rfl
  | cons b bs ih => rw [glyphOps, ih]; rfl

/-- The steps of a command are fixed by registers and parameters, none of which is the display's. -/
theorem programOf_withoutDisplay (i : Instr) (s : State) : programOf i s.withoutDisplay = programOf i s := by
  cases i with
  | displayChar code =>
    have hglyph : glyphOf s.withoutDisplay.cfg code = glyphOf s.cfg code := rfl
    simp only [programOf, progDisplayChar, hglyph]
    split
    · exact glyphOps_with_display ..
    · rfl
  | _ => rfl

/-- READ_BYTE alone answers a byte read from the display (R93, R103). -/
theorem readByte_of_mem {i : Instr} (hwf : i.wf = true) {s : State} {k : Option Chip}
    (h : .bus (.read k .respond) ∈ programOf i s) : ∃ ch, i = .readByte ch := by
  have hcount : 1 ≤ i.responseCount :=
    (List.le_sum_of_mem (List.mem_map_of_mem h)).trans_eq (programOf_responseCount hwf s)
  cases i with
  | readByte ch => exact ⟨ch, rfl⟩
  | consume | derive => cases List.mem_singleton.mp h
  | readReg x =>
    simp only [programOf, progReadReg] at h
    split at h <;> cases List.mem_singleton.mp h
  | _ => exact absurd hcount (Nat.not_succ_le_zero 0)

/-- Two states that differ in the display alone: commands keep them so, and make as many transactions from the one as
from the other. -/
theorem execAll_withoutDisplay {is : List Instr} (hwf : ∀ i ∈ is, i.wf = true)
    (hread : ∀ i ∈ is, ∀ ch, i ≠ .readByte ch) {s s' : State} (hs : s.withoutDisplay = s'.withoutDisplay) :
    ∃ t t' n, execAll is s = some t ∧ execAll is s' = some t' ∧ t.withoutDisplay = t'.withoutDisplay ∧
      t.trace.length = s.trace.length + n ∧ t'.trace.length = s'.trace.length + n := by
  induction is generalizing s s' with
  | nil => exact ⟨s, s', 0, rfl, rfl, hs, rfl, rfl⟩
  | cons i is ih =>
    obtain ⟨hwfi, hwfis⟩ := List.forall_mem_cons.mp hwf
    obtain ⟨hreadi, hreadis⟩ := List.forall_mem_cons.mp hread
    have hprog : programOf i s' = programOf i s := by
      rw [← programOf_withoutDisplay i s', ← hs, programOf_withoutDisplay]
    have hunanswered : ∀ op ∈ programOf i s, ∀ k, op ≠ .bus (.read k .respond) := by
      rintro _ hmem k rfl
      obtain ⟨ch, hi⟩ := readByte_of_mem hwfi hmem
      exact hreadi ch hi
    obtain ⟨t, t', n, ht, ht', hsame, hn, hn'⟩ := ih hwfis hreadis (run_withoutDisplay hunanswered hs)
    rw [run_trace_length_eq_add_countP, Nat.add_assoc] at hn hn'
    exact ⟨t, t', _, (execAll_cons i is s).trans ht, by rw [execAll_cons, hprog, ht'], hsame, hn, hn'⟩

/-- Settles O56: both states run the same programs, no step of which takes anything from the display. -/
theorem displayDoesNotReachTheBlock : Obligations.DisplayDoesNotReachTheBlock := by
  intro is s s' hwf hread hs
  obtain ⟨t, t', n, ht, ht', hsame, hn, hn'⟩ := execAll_withoutDisplay hwf hread hs
  exact ⟨t, t', ht, ht', hsame, fun d hd => by omega⟩

end Sys2Proof.Machine
end

section
/-! Reset (spec/70_reset_and_hazards.md R220-R224): the state that a slot with `rst` = 1 answers and the cycle after it,
and the reset line of the display over every step. -/

namespace Sys2Proof.Machine

/-! ### Right after reset (R220) -/

/-- Settles O10: the reset values are legal, the display memory is empty, and the pins stand at the idle levels. -/
theorem resetMeetsTheInvariants : Obligations.ResetMeetsTheInvariants := by
  intro c hc
  have hzero := tickOk_zero c
  have hne : c.pixelPeriodReset ≠ 0 := Config.ok_pixelPeriodReset hc
  have hwave : 0 < c.pixelPeriodReset := by bv_omega
  have hticks : (State.resetWith c).ticksOk = true := (ticksOk_iff _).mpr ⟨hzero, hzero, hzero, hzero, hzero, hzero⟩
  have hregs : (State.resetWith c).regsOk = true := (regsOk_iff _).mpr ⟨hc, hticks, decide_eq_true hwave, rfl⟩
  exact ⟨(regInv_iff _).mpr ⟨hregs, rfl⟩, rfl, releaseBus_pinsIdle (State.resetWith c)⟩

/-! ### A slot with `rst` = 1 (R220, R222) -/

/-- Reset is asked for before everything else of its slot (R222). -/
theorem step_of_rst {s : State} (hok : s.cfg.ok = true) (hr : s.nextSlot.rst = true) :
    step s = .next (blockReset s.nextSlot s.popSlot) := by
  rw [step_of_ok hok, playSlot_of_rst _ _ hr]

/-- In the first cycle after a reset the block is ready, offers nothing, and awaits a rising edge (R220). -/
theorem openSlot_blockReset_outputs {next : Slot} (he : next.edge = none) (sl : Slot) (s : State) :
    let u := openSlot next (blockReset sl s)
    u.cmdReady = true ∧ u.rspValid = false ∧ u.measReadyPort = false ∧ u.capArmRising = true := by
  intro u
  obtain ⟨⟨_, hphase, _, _, hready⟩, _⟩ := openSlot_of_no_edge he (blockReset sl s)
  exact ⟨openSlot_cmdReady _ _, openSlot_rspValid _ _, hready, by rw [State.capArmRising, hphase]; rfl⟩

/-- Settles O14: the step answers `blockReset`, which writes the registers one by one and releases the bus. -/
theorem blockResetSetsEveryRegister : Obligations.BlockResetSetsEveryRegister := by
  intro s hok hr
  have hbuf (x : Nat) : sampleAt 0 x = false := BitVec.getLsbD_zero
  exact ⟨blockReset s.nextSlot s.popSlot, step_of_rst hok hr, rfl, rfl, fun x _ => hbuf x, rfl, rfl, rfl, rfl, rfl, rfl,
    rfl, rfl, rfl, rfl, rfl, rfl, rfl, rfl, blockReset_busInv _ _, rfl, rfl, rfl,
    fun _ _ he => openSlot_blockReset_outputs he _ _⟩

/-- Of its slot, a reset takes only the ticks of the timestamp counter (R222). -/
theorem blockReset_congr {sl sl' : Slot} (h : sl'.ticks = sl.ticks) (s : State) : blockReset sl' s = blockReset sl s := by
  rw [blockReset, blockReset, h]

/-- Settles O15: the state that a reset answers holds nothing of the word, the event, the acceptance or the pace. -/
theorem resetWinsOverWordAndEvent : Obligations.ResetWinsOverWordAndEvent := by
  intro s sl rest hok hr
  have hstep (sl' : Slot) (hr : sl'.rst = true) :
      step { s with inputs := sl' :: rest } = .next (blockReset sl' { s with inputs := rest }) :=
    step_of_rst (s := { s with inputs := sl' :: rest }) hok hr
  refine ⟨_, hstep sl hr, rfl, fun cmd edge rspReady pace => ?_⟩
  rw [hstep { sl with cmd := cmd, edge := edge, rspReady := rspReady, pace := pace } hr]
  exact congrArg _ (blockReset_congr rfl _)

/-! ### The reset line of the display (R224) -/

/-- No step of the sequencer pulls `lcd_rst_n` down: a transaction leaves the idle levels, the rest no pin. -/
theorem runOp_rstN (op : MicroOp) {s : State} (h : s.pins.rstN = true) : (runOp op s).pins.rstN = true := by
  cases op with
  | bus t => rfl
  | consume => simpa [runOp] using h
  | _ => exact h

theorem run_rstN (ops : List MicroOp) {s : State} (h : s.pins.rstN = true) : (run ops s).pins.rstN = true := by
  induction ops generalizing s with
  | nil => exact h
  | cons op ops ih => exact ih (runOp_rstN op h)

theorem startTxn_rstN (t : Txn) (s : State) : (startTxn t s).pins.rstN = s.pins.rstN := by cases t <;> rfl

theorem selectChip_rstN (c : Config) (k : Option Chip) (p : Pins) : (p.selectChip c k).rstN = p.rstN := by
  unfold Pins.selectChip; split <;> rfl

theorem tickFlight_rstN (f : Flight) {s : State} (h : s.pins.rstN = true) : (tickFlight f s).pins.rstN = true := by
  obtain ⟨t, stage, left⟩ := f
  cases left with
  | succ n => exact h
  | zero =>
    cases stage with
    | mode => exact (selectChip_rstN _ _ _).trans h
    | select => exact h
    | enable => simpa [tickFlight] using h
    | hold => rfl

theorem finishFlight_rstN (f : Flight) (s : State) : (finishFlight f s).pins.rstN = true := by
  unfold finishFlight; split <;> rfl

/-- The progress of a busy sequencer leaves `lcd_rst_n` at 1, at every pace. -/
theorem progress_rstN (pace : Pace) {s : State} (h : s.pins.rstN = true) : (progress pace s).pins.rstN = true := by
  cases pace with
  | wait => exact h
  | cycle =>
    simp only [progress, tickCycle]
    split
    · exact tickFlight_rstN _ h
    · exact (startTxn_rstN _ _).trans h
    · exact runOp_rstN _ h
    · exact h
  | transaction =>
    simp only [progress, finishStep]
    split
    · exact finishFlight_rstN _ s
    · exact runOp_rstN _ h
    · exact h
  | command =>
    simp only [progress, finishCommand]
    split
    · exact run_rstN _ (finishFlight_rstN _ s)
    · exact run_rstN _ h

/-- Settles O16: a reset pulls the line down; any other slot opens with it at 1, and nothing made in it changes that. -/
theorem displayResetLineFollowsReset : Obligations.DisplayResetLineFollowsReset := by
  intro s t h
  obtain ⟨_, ⟨hr, rfl⟩ | ⟨hr, hcases⟩⟩ := step_cases h <;> rw [hr]
  · rfl
  set u := openSlot s.nextSlot s.popSlot with hu
  have hopen : u.pins.rstN = true := by simp [hu]
  obtain ⟨_, w, c, _, _, rfl⟩ | ⟨_, w, i, _, _, _, rfl⟩ | ⟨_, w, i, _, _, _, rfl⟩ | ⟨_, _, rfl⟩ |
    ⟨_, _, rfl⟩ | ⟨_, _, rfl⟩ := hcases
  · exact hopen
  · exact run_rstN _ hopen
  · exact hopen
  · exact hopen
  · split <;> simpa using hopen
  · exact progress_rstN _ hopen

end Sys2Proof.Machine
end

section
/-! The number of bus transactions of every command (spec/70_reset_and_hazards.md R237): the lengths of the lists of
transactions it is made of. -/

namespace Sys2Proof.Machine

/-! ### A character (R121, R122) -/

/-- The records of up to 64 glyph bytes: three a byte, and two more where one of them stands at column 63. -/
theorem length_charRecords (cfg : Config) (n : Nat) (bs : List Byte) (hbs : bs.length ≤ 64) :
    (charRecords cfg n bs).length =
      3 * bs.length + if n % 128 ≤ 63 ∧ 63 < n % 128 + bs.length then 2 else 0 := by
  induction bs generalizing n with
  | nil => simp [charRecords]
  | cons b bs ih =>
    have hhead : (charRecords cfg n [b]).length = 3 + if n % 128 = 63 then 2 else 0 := by
      simp only [charRecords, List.append_nil, List.length_append, List.length_cons]
      split_ifs <;> rfl
    rw [List.length_cons] at hbs ⊢
    rw [charRecords_cons, List.length_append, hhead, ih (n + 1) (by omega)]
    split_ifs <;> omega

theorem length_busTrace (s : State) : s.busTrace.length = s.trace.length := List.length_reverse

theorem run_displayChar_trace_length (code : Byte) (s : State) (buf : BitVec 128) :
    (run (programOf (.displayChar code) s) s).trace.length =
      s.trace.length + transactionCount (.displayChar code) s buf := by
  rw [transactionCount]
  split
  next hcode =>
    obtain ⟨v, -, hprog⟩ := programOf_displayChar_supported s hcode
    have hcol : s.cursorIndex % 128 = s.curCol.toNat := by rw [← toNat_colAt, colAt_cursorIndex]
    have hlen : (v.toList ++ [0]).length = 6 := by simp
    rw [hprog, ← length_busTrace, run_glyphOps_busTrace, List.length_append, length_busTrace,
      length_charRecords _ _ _ (by omega), hlen, hcol]
    split_ifs <;> omega
  next hcode => rw [programOf_displayChar_unsupported s hcode]; rfl

/-! ### A render step (R144-R147) -/

theorem length_vconnOps (cfg : Config) (x : BitVec 7) :
    (vconnOps cfg x).length = 2 * (cfg.bot - cfg.top + 1) * (6 + cfg.dummyRead.toNat) := by
  have hrow (r : Nat) (c : BitVec 7) : (rmwOrOps cfg r c).length = 6 + cfg.dummyRead.toNat := by
    rw [length_rmwOrOps]; cases cfg.dummyRead <;> rfl
  have hcol (c : BitVec 7) : (vcolOps cfg c).length = (cfg.bot - cfg.top + 1) * (6 + cfg.dummyRead.toNat) := by
    obtain ⟨htop, hbot⟩ := level_bounds cfg true
    have hrows : cfg.bot + 1 - cfg.top = cfg.bot - cfg.top + 1 := by omega
    simp [vcolOps, List.length_flatMap, hrow, hrows]
  rw [vconnOps, List.length_append, hcol, hcol]
  ring

section legal
variable {cfg : Config} (h : cfg.ok = true)
include h

/-- The erase writes each byte of its pages once (R144). -/
theorem length_eraseOps : (eraseOps cfg).length = 3 * 128 * (cfg.tracePageHi - cfg.tracePageLo + 1) := by
  obtain ⟨hpages, _⟩ := Config.ok_geometry h
  have hwrite (p : BitVec 3) (c : BitVec 7) (b : Byte) : (addrWriteOps cfg p c b).length = 3 := rfl
  have hcount : cfg.tracePageHi + 1 - cfg.tracePageLo = cfg.tracePageHi - cfg.tracePageLo + 1 := by omega
  simp [eraseOps, List.length_flatMap, hwrite, hcount, Nat.mul_comm]

/-- A segment is one addressed write, or two where its rows lie in two pages (R145). -/
theorem length_hsegOps (x : BitVec 7) (b : Bool) : (hsegOps cfg x (level cfg b)).length =
    if level cfg b / 8 = (level cfg b + 1) / 8 then 3 else 6 := by
  obtain ⟨htop, hbot⟩ := level_bounds cfg b
  obtain ⟨_, _, hrow⟩ := Config.drawn_row_erased h (r := level cfg b + 1) (by omega) (by omega)
  simp only [hsegOps, rowPage_eq_iff (show level cfg b < 64 by omega) (show level cfg b + 1 < 64 by omega)]
  split <;> rfl

/-- The columns of a list make their segments, and a connector for each edge among them (R147). -/
theorem length_columns (buf : BitVec 128) (xs : List Nat) : (xs.flatMap (columnOps cfg buf)).length =
    (xs.map fun x => if level cfg (sampleAt buf x) / 8 = (level cfg (sampleAt buf x) + 1) / 8 then 3 else 6).sum +
      xs.countP (edgeAt cfg buf) * (2 * (cfg.bot - cfg.top + 1) * (6 + cfg.dummyRead.toNat)) := by
  induction xs with
  | nil => simp
  | cons x xs ih =>
    have hconn : (if edgeAt cfg buf x then vconnOps cfg (BitVec.ofNat 7 x) else []).length =
        if edgeAt cfg buf x then 2 * (cfg.bot - cfg.top + 1) * (6 + cfg.dummyRead.toNat) else 0 := by
      rw [apply_ite List.length, length_vconnOps, List.length_nil]
    rw [List.flatMap_cons, List.length_append, ih, columnOps, List.length_append, length_hsegOps h, hconn, List.map_cons,
      List.sum_cons, List.countP_cons, Nat.add_mul, ite_mul, Nat.one_mul, Nat.zero_mul]
    omega

theorem length_imageOps (buf : BitVec 128) : (imageOps cfg buf).length = renderTransactions cfg buf := by
  have hrange : List.range 128 = 0 :: List.range' 1 127 := rfl
  have hfirst : edgeAt cfg buf 0 = false := rfl
  have hedges : (List.range 128).countP (edgeAt cfg buf) = edgeCount cfg buf := by
    rw [hrange, List.countP_cons_of_neg (by simp [hfirst]), List.countP_eq_length_filter, edgeCount]
    refine congrArg List.length (List.filter_congr fun x hx => ?_)
    have hx1 : 1 ≤ x := (List.mem_range'_1.mp hx).1
    rw [Bool.eq_iff_iff, edgeAt_iff, bne_iff_ne]
    exact and_iff_right hx1
  rw [imageOps, List.length_append, length_eraseOps h, drawOps, length_columns h, hedges, ← Nat.add_assoc]
  rfl

end legal

/-- A render step issues the transactions of the buffer that it leaves (R237). -/
theorem renderStep_trace_length (duty : Nat) {s : State} (h : s.cfg.ok = true) : (renderStep duty s).trace.length =
    s.trace.length + renderTransactions s.cfg (renderStep duty s).waveBuf := by
  obtain ⟨-, ⟨hbuf, -⟩, -⟩ := renderStep_registers duty s
  rw [hbuf, renderStep, run_trace_length (isBus_imageOps _ _), length_imageOps h]
  rfl

/-! ### Every command -/

theorem run_programOf_trace_length {i : Instr} (hwf : i.wf = true) {s : State} (h : s.cfg.ok = true) :
    (run (programOf i s) s).trace.length =
      s.trace.length + transactionCount i s (run (programOf i s) s).waveBuf := by
  cases i with
  | displayChar code => exact run_displayChar_trace_length code s _
  | waveStep d =>
    rw [run_waveStep (of_decide_eq_true hwf)]
    exact renderStep_trace_length _ h
  | waveStepM => exact renderStep_trace_length _ h
  | waveConfig per => rw [run_waveConfig (of_decide_eq_true hwf)]; rfl
  | readReg x =>
    obtain ⟨r, hr⟩ := exists_ofIndex (of_decide_eq_true hwf)
    rw [programOf, progReadReg, hr]
    rfl
  | _ => exact run_trace_length_eq_add_countP _ s

/-- Settles O46: a command leaves as many records as its program holds transactions, and IllegalCommand none. -/
theorem transactionCounts : Obligations.TransactionCounts :=
  ⟨fun i s hwf hok => ⟨_, exec_eq_run i s, run_programOf_trace_length hwf hok⟩, illegalCommand_trace⟩

end Sys2Proof.Machine
end
